-- ==== Sys2Proof/Word.lean ====
section
/-! DEFINITION. The words and the two-valued things the block is made of (10_state.md R20 to R34, 30_encoding.md R100). -/

namespace Sys2Proof

/-- A byte on the wire, SR, RB[0], RB[1] (R21, R23). -/
abbrev Byte := BitVec 8

/-- The operation select word, format T (30_encoding.md R94). -/
abbrev Osw := BitVec 9

/-- FLAGS and the host's flag-set word, format H (R29, R98). -/
abbrev FlagWord := BitVec 4

/-- PHASE, the 3-bit phase register (R25); 5, 6 and 7 are the unrecognised states. -/
abbrev Phase := BitVec 3

namespace Phase
abbrev idle : Phase := 0#3
abbrev start : Phase := 1#3
abbrev addressOrData : Phase := 2#3
abbrev ack : Phase := 3#3
abbrev stop : Phase := 4#3
end Phase

/-- The two locations of the line space (20_memory.md R61). -/
inductive Line where
  | scl
  | sda
deriving DecidableEq, Repr

/-- The output state of a line: there is no driven-high value (R34, 40_line_driver.md R127). -/
inductive Latch where
  | drivenLow
  | released
deriving DecidableEq, Repr

/-- A physical level, and what the rest of the bus does to a line: `low` when another device drives it low (R123). -/
inductive Level where
  | low
  | high
deriving DecidableEq, Repr, Inhabited

/-- CPF, the ClockPhaseFlag (R27). -/
inductive ClockPhase where
  | rise
  | fall
deriving DecidableEq, Repr

/-- DIR, the TransferDirection (R28). -/
inductive Direction where
  | tx
  | rx
deriving DecidableEq, Repr

/-- One command of the line driver (40_line_driver.md R121, R122, R126). -/
inductive LineCommand where
  | release (l : Line)
  | driveLow (l : Line)
deriving DecidableEq, Repr

/-- One call of the publish collaborator: `publish(channelName, payload)` (45_host_interface.md R236). -/
structure Publish where
  channel : List Char
  payload : List Char
deriving DecidableEq, Repr

end Sys2Proof
end

