-- ==== Sys2Proof/Config.lean ====
section
/-! DEFINITION. The parameters of an instance (00_scope.md R10, 10_state.md R35), the moves of the environment
(20_memory.md R72) and the free values (93_implementation_defined.md). -/

namespace Sys2Proof

/-- The OPEN parameters of R10 (93_implementation_defined.md U12). -/
structure Params where
  /-- SLAVE_ADDR7, the 7-bit slave address (R10, R62). -/
  slaveAddr7 : BitVec 7
  /-- T_TICK, the tick period in seconds (R10): no rule of a tick reads it; R321 derives rates from it. -/
  tTick : Rat
  /-- POLL_INTERVAL_TICKS (R10, R11). -/
  pollInterval : Nat
  /-- FORCED_REPORT_COUNT (R10). -/
  forcedCount : Nat
  /-- CHANNEL_NAME (30_encoding.md R101, D26). -/
  channel : List Char
deriving DecidableEq, Repr

/-- One move of the environment, each a step of its own (20_memory.md R73). -/
inductive EnvEvent where
  /-- A tick is delivered. The arguments are what the rest of the bus does to SCL and to SDA when it is
  sampled: `low` when another device drives the line low (40_line_driver.md R123). -/
  | tick (peerScl peerSda : Level)
  /-- The host performs FSET m (45_host_interface.md R230). -/
  | fset (m : FlagWord)
  /-- The connection-event collaborator signals "connected" (R232). -/
  | connected
  /-- The connection-event collaborator signals "connection error" (R233). -/
  | connectionError
  /-- The reset input is asserted or released (70_reset_and_hazards.md R290). -/
  | rst (asserted : Bool)
  /-- Nothing reaches the block. -/
  | quiet
deriving DecidableEq, Repr, Inhabited

namespace Config

/-- SENTINEL: fixed at 10000 (R10, 90_conflicts.md C11). -/
def sentinel : BitVec 16 := 10000#16

/-- RANGE_MAX, the largest valid data byte (R10). -/
def rangeMax : Nat := 99

/-- NOISE_LIMIT (R10). -/
def noiseLimit : Nat := 50

/-- BITS_PER_BYTE, the count loaded into BC (R10, R22). -/
def bitsPerByte : BitVec 4 := 8#4

/-- The default of POLL_INTERVAL_TICKS (R10). -/
def defaultPollInterval : Nat := 5000

/-- The default of FORCED_REPORT_COUNT (R10). -/
def defaultForcedCount : Nat := 60

/-- SLAVE_ADDR7 of the instance that `State.reset` describes: OPEN, 0 to 127 (R10). Log entry 8. -/
opaque slaveAddr7 : BitVec 7

/-- T_TICK of the instance that `State.reset` describes: OPEN, "a fixed, stable period" (R10). Log entry 8. -/
opaque tTick : Rat

/-- CHANNEL_NAME of the instance that `State.reset` describes: OPEN (R101). Log entry 8. -/
opaque channelName : List Char

/-- SR after a reset: unspecified, a draw (R41, U2). Log entry 6. -/
opaque resetSr : Nat → Byte

/-- RB[0] after a reset: unspecified, a draw (R41, U2). Log entry 6. -/
opaque resetRb0 : Nat → Byte

/-- RB[1] after a reset: unspecified, a draw (R41, U2). Log entry 6. -/
opaque resetRb1 : Nat → Byte

/-- LRV after a reset: unspecified, a draw (R41, U2). Log entry 6. -/
opaque resetLrv : Nat → BitVec 16

/-- CCV after a reset: unspecified, a draw (R41, U2). Log entry 6. -/
opaque resetCcv : Nat → BitVec 16

/-- What the environment does when no move waits in the inbox: any move, with any levels (U5, U6, U10, U13).
Log entry 3. -/
opaque freeEvent : Nat → EnvEvent

end Config

end Sys2Proof
end

