-- ==== Sys2Proof/Syntax.lean ====
section
/-! DEFINITION. The operations: one constructor per row of spec/opcode_table.json (30_encoding.md R96, R97, R98). -/

namespace Sys2Proof

/-- What one step performs. Twenty-one rows of the operation map, the reserved row, and the host's FSET. -/
inductive Instr where
  /-- IDLE.WAIT (42_sequencer.md R161). -/
  | idleWait
  /-- IDLE.GO (R162). -/
  | idleGo
  /-- START.RETRY (R164). -/
  | startRetry
  /-- START.COND (R166). -/
  | startCond
  /-- XFER.RISE.TX (41_bit_engine.md R142). -/
  | xferRiseTx
  /-- XFER.RISE.RX (R143). -/
  | xferRiseRx
  /-- XFER.FALL.TXBIT (R146). -/
  | xferFallTxbit
  /-- XFER.FALL.TXEND (R147). -/
  | xferFallTxend
  /-- XFER.FALL.RXHOLD (R148). -/
  | xferFallRxhold
  /-- XFER.FALL.RXACK (R149). -/
  | xferFallRxack
  /-- XFER.FALL.RXNACK (R150). -/
  | xferFallRxnack
  /-- ACK.RISE.TX (42_sequencer.md R168). -/
  | ackRiseTx
  /-- ACK.RISE.RX0 (R169). -/
  | ackRiseRx0
  /-- ACK.RISE.RX1 (R170). -/
  | ackRiseRx1
  /-- ACK.FALL.TURN (R176). -/
  | ackFallTurn
  /-- ACK.FALL.NEXT (R177). -/
  | ackFallNext
  /-- ACK.FALL.LAST (R178). -/
  | ackFallLast
  /-- STOP.SCL (R180). -/
  | stopScl
  /-- STOP.SDA (R182). -/
  | stopSda
  /-- FAULT.RECOVER, the row for PHASE = 5 (R183). -/
  | faultRecover5
  /-- FAULT.RECOVER, the row for PHASE = 6 and 7 (R183). -/
  | faultRecover67
  /-- The reserved row: no operation (30_encoding.md R97). -/
  | reserved
  /-- FSET m, the host's step (45_host_interface.md R230). -/
  | fset (m : FlagWord)
deriving DecidableEq, Repr

end Sys2Proof
end

