-- ==== Sys2Proof/WellFormed.lean ====
section
/-! DEFINITION. Which terms of `Instr` are operations of the block. -/

namespace Sys2Proof

/-- The one check: the reserved row names no operation (30_encoding.md R97, "no operation defined"). Every other
row is an operation; FSET takes all sixteen words (R98), which its type already says. -/
def Instr.wellFormed (i : Instr) : Bool :=
  match i with
  | .idleWait => true
  | .idleGo => true
  | .startRetry => true
  | .startCond => true
  | .xferRiseTx => true
  | .xferRiseRx => true
  | .xferFallTxbit => true
  | .xferFallTxend => true
  | .xferFallRxhold => true
  | .xferFallRxack => true
  | .xferFallRxnack => true
  | .ackRiseTx => true
  | .ackRiseRx0 => true
  | .ackRiseRx1 => true
  | .ackFallTurn => true
  | .ackFallNext => true
  | .ackFallLast => true
  | .stopScl => true
  | .stopSda => true
  | .faultRecover5 => true
  | .faultRecover67 => true
  | .reserved => false
  | .fset _ => true

end Sys2Proof
end

