-- ==== Sys2Proof/Decode.lean ====
section
/-! DEFINITION. The decoder and the encoder (30_encoding.md R94 to R98, spec/opcode_table.json). -/

namespace Sys2Proof

/-- One row of the operation map: the words `w` with `w AND mask = pat` select `instr` (R95). -/
structure MapRow where
  instr : Instr
  mask : Osw
  pat : Osw
deriving DecidableEq, Repr

/-- The rows of phases Idle and Start (R96). -/
def idleStartRows : List MapRow :=
  [ ⟨.idleWait, 0x1C2#9, 0x000#9⟩,
    ⟨.idleGo, 0x1C2#9, 0x002#9⟩,
    ⟨.startRetry, 0x1C1#9, 0x040#9⟩,
    ⟨.startCond, 0x1C1#9, 0x041#9⟩ ]

/-- The rows of phase AddressOrData (R96), and the reserved row (R97) after them. -/
def engineRows : List MapRow :=
  [ ⟨.xferRiseTx, 0x1F8#9, 0x080#9⟩,
    ⟨.xferRiseRx, 0x1F8#9, 0x090#9⟩,
    ⟨.xferFallTxbit, 0x1F8#9, 0x0A0#9⟩,
    ⟨.xferFallTxend, 0x1F8#9, 0x0A8#9⟩,
    ⟨.xferFallRxhold, 0x1F8#9, 0x0B0#9⟩,
    ⟨.xferFallRxack, 0x1FC#9, 0x0BC#9⟩,
    ⟨.xferFallRxnack, 0x1FC#9, 0x0B8#9⟩,
    ⟨.reserved, 0x1E8#9, 0x088#9⟩ ]

/-- The rows of phase Ack (R96). -/
def ackRows : List MapRow :=
  [ ⟨.ackRiseTx, 0x1F0#9, 0x0C0#9⟩,
    ⟨.ackRiseRx0, 0x1F4#9, 0x0D4#9⟩,
    ⟨.ackRiseRx1, 0x1F4#9, 0x0D0#9⟩,
    ⟨.ackFallTurn, 0x1F0#9, 0x0E0#9⟩,
    ⟨.ackFallNext, 0x1F4#9, 0x0F4#9⟩,
    ⟨.ackFallLast, 0x1F4#9, 0x0F0#9⟩ ]

/-- The rows of phase Stop and of the unrecognised phases (R96). -/
def stopRows : List MapRow :=
  [ ⟨.stopScl, 0x1E0#9, 0x100#9⟩,
    ⟨.stopSda, 0x1E0#9, 0x120#9⟩,
    ⟨.faultRecover5, 0x1C0#9, 0x140#9⟩,
    ⟨.faultRecover67, 0x180#9, 0x180#9⟩ ]

/-- The operation map, the reserved row among the rows. -/
def operationMap : List MapRow :=
  idleStartRows ++ engineRows ++ ackRows ++ stopRows

/-- Whether a word selects a row (R95). -/
def MapRow.selects (r : MapRow) (w : Osw) : Bool :=
  w &&& r.mask == r.pat

/-- Decode of format T: the row the word selects (R95). The rows cover all 512 words, so the last answer is
never given. -/
def decodeOsw (w : Osw) : Instr :=
  match operationMap.find? (fun r => r.selects w) with
  | some r => r.instr
  | none => .reserved

/-- Decode of format H: all sixteen words are FSET (R98). -/
def decodeFlagWord (m : FlagWord) : Instr :=
  .fset m

/-- Why bytes are no word of the block. Log entry 11. -/
inductive DecodeError where
  /-- Two bytes whose upper seven bits are not zero: wider than format T. -/
  | oswTooWide
  /-- One byte whose upper four bits are not zero: wider than format H. -/
  | flagWordTooWide
  /-- No byte, or more than two. -/
  | noSuchFormat
deriving DecidableEq, Repr

/-- Decode of bytes, total: one byte is a format H word, two bytes are a format T word with the low byte first.
Log entry 11. -/
def decodeBytes (bs : List Byte) : Except DecodeError Instr :=
  match bs with
  | [b] =>
    if b.toNat < 16 then .ok (decodeFlagWord (b.setWidth 4)) else .error .flagWordTooWide
  | [lo, hi] =>
    if hi.toNat < 2 then .ok (decodeOsw ((hi ++ lo).setWidth 9)) else .error .oswTooWide
  | _ => .error .noSuchFormat

/-- The word of an operation of format T with every bit its mask leaves out at 0, and the word of FSET in its low
four bits (R96, R97, R98). -/
def Instr.word (i : Instr) : Osw :=
  match i with
  | .idleWait => 0b000000000#9
  | .idleGo => 0b000000010#9
  | .startRetry => 0b001000000#9
  | .startCond => 0b001000001#9
  | .xferRiseTx => 0b010000000#9
  | .xferRiseRx => 0b010010000#9
  | .xferFallTxbit => 0b010100000#9
  | .xferFallTxend => 0b010101000#9
  | .xferFallRxhold => 0b010110000#9
  | .xferFallRxack => 0b010111100#9
  | .xferFallRxnack => 0b010111000#9
  | .ackRiseTx => 0b011000000#9
  | .ackRiseRx0 => 0b011010100#9
  | .ackRiseRx1 => 0b011010000#9
  | .ackFallTurn => 0b011100000#9
  | .ackFallNext => 0b011110100#9
  | .ackFallLast => 0b011110000#9
  | .stopScl => 0b100000000#9
  | .stopSda => 0b100100000#9
  | .faultRecover5 => 0b101000000#9
  | .faultRecover67 => 0b110000000#9
  | .reserved => 0b010001000#9
  | .fset m => m.setWidth 9

/-- Whether the operation's word is of format H (R98). -/
def Instr.isHostWord (i : Instr) : Bool :=
  match i with
  | .idleWait => false
  | .idleGo => false
  | .startRetry => false
  | .startCond => false
  | .xferRiseTx => false
  | .xferRiseRx => false
  | .xferFallTxbit => false
  | .xferFallTxend => false
  | .xferFallRxhold => false
  | .xferFallRxack => false
  | .xferFallRxnack => false
  | .ackRiseTx => false
  | .ackRiseRx0 => false
  | .ackRiseRx1 => false
  | .ackFallTurn => false
  | .ackFallNext => false
  | .ackFallLast => false
  | .stopScl => false
  | .stopSda => false
  | .faultRecover5 => false
  | .faultRecover67 => false
  | .reserved => false
  | .fset _ => true

/-- The encoder: the bytes `decodeBytes` reads. -/
def encode (i : Instr) : List Byte :=
  if i.isHostWord then [i.word.setWidth 8]
  else [i.word.setWidth 8, (i.word >>> 8).setWidth 8]

/-- The bytes of a word numbered as spec/opcode_table.json numbers it: bit 0 is the least significant bit of the
first byte. One byte for at most eight bits, two for more. -/
def tableBytes (nbits w : Nat) : List Byte :=
  if nbits ≤ 8 then [BitVec.ofNat 8 w]
  else [BitVec.ofNat 8 w, BitVec.ofNat 8 (w / 256)]

/-- The instruction the decoder reads from a table word; none where it refuses, and where the word has a bit
above the two formats. -/
def decodeTableWord (nbits w : Nat) : Option Instr :=
  if w < 2 ^ (if nbits ≤ 8 then 8 else 16) then
    match decodeBytes (tableBytes nbits w) with
    | .ok i => some i
    | .error _ => none
  else none

end Sys2Proof
end

