-- ==== Sys2Proof/Machine/State.lean ====
section
/-! DEFINITION. The state of the machine (10_state.md R20, R36, R37, R38), its reset, its stop reasons, and one
setter for each register an operation writes. -/

namespace Sys2Proof.Machine

/-- Everything the spec gives the machine, its ports, and the environment's pending moves. -/
structure State where
  /-- SR, the ShiftRegister (R21). -/
  sr : Byte
  /-- BC, the BitCounter (R22). -/
  bc : BitVec 4
  /-- RB[0] (R23). -/
  rb0 : Byte
  /-- RB[1] (R23). -/
  rb1 : Byte
  /-- PHASE (R25). -/
  phase : Phase
  /-- CPF (R27). -/
  cpf : ClockPhase
  /-- DIR (R28). -/
  dir : Direction
  /-- FLAGS (R29). -/
  flags : FlagWord
  /-- SCL_OUT (R34). -/
  sclOut : Latch
  /-- SDA_OUT (R34). -/
  sdaOut : Latch
  /-- TSLP, TicksSinceLastPoll (R37). -/
  tslp : Nat
  /-- TSLFR, TransactionsSinceLastForcedReport (R37). -/
  tslfr : Nat
  /-- LRV, LastReportedValue (R38). -/
  lrv : BitVec 16
  /-- CCV, CurrentComputedValue (R38). -/
  ccv : BitVec 16
  /-- The input scl_in as sampled for this tick (R36, R124). -/
  sclIn : Level
  /-- The input sda_in as sampled for this tick (R36, R124). -/
  sdaIn : Level
  /-- The input rst is asserted (R36, R290). -/
  rstHeld : Bool
  /-- The line commands of this step, in the order they reach the lines (R126). -/
  cmds : List LineCommand
  /-- The output event `done` of this step with the pair it hands over (R36, R181). -/
  done : Option (Byte × Byte)
  /-- The publish call of this step (R216, R236). -/
  published : Option Publish
  /-- The parameters of the instance: no operation writes them (R35). -/
  cfg : Params
  /-- The tick source has been armed by "connected" (R232, R258). -/
  armed : Bool
  /-- The moves of the environment that wait, oldest first. The model's own field, log entry 2. -/
  inbox : List EnvEvent
  /-- How many free values have been drawn. The model's own field, log entry 3. -/
  draws : Nat
deriving DecidableEq, Repr

/-- Why a run stops with a fault. -/
inductive Fault where
  /-- Raised by the reserved row of the operation map, and by the two rising operations of the engine when BC is
  already 0 (30_encoding.md R97, D14, U1): "a fault of the model (no next state), never a value". Safe: the
  hardware's counter would do something the spec does not say. -/
  | reservedOperation
deriving DecidableEq, Repr

/-- Why a step is refused. -/
inductive Refusal where
  /-- Raised by an arm of `exec` that has no meaning yet. No arm is left so. Safe. -/
  | notModelled (mnemonic : String)
  /-- Raised by `step` when the instance's parameters are outside their range (93_implementation_defined.md U11:
  "such a configuration is not a configuration of the block"). Safe. -/
  | illegalConfiguration
deriving DecidableEq, Repr

/-- What every meaning answers. -/
abbrev Result := Host.Outcome State Fault Refusal

namespace State

def setSr (s : State) (v : Byte) : State := { s with sr := v }
def setBc (s : State) (v : BitVec 4) : State := { s with bc := v }
def setRb0 (s : State) (v : Byte) : State := { s with rb0 := v }
def setRb1 (s : State) (v : Byte) : State := { s with rb1 := v }
def setPhase (s : State) (v : Phase) : State := { s with phase := v }
def setCpf (s : State) (v : ClockPhase) : State := { s with cpf := v }
def setDir (s : State) (v : Direction) : State := { s with dir := v }
def setFlags (s : State) (v : FlagWord) : State := { s with flags := v }
def setDone (s : State) (v : Option (Byte × Byte)) : State := { s with done := v }

/-- The parameters of the instance `reset` describes (R10; log entry 8). -/
def defaultParams : Params :=
  { slaveAddr7 := Config.slaveAddr7
    tTick := Config.tTick
    pollInterval := Config.defaultPollInterval
    forcedCount := Config.defaultForcedCount
    channel := Config.channelName }

/-- The machine right after reset (10_state.md R41, 70_reset_and_hazards.md R290). SR, RB, LRV and CCV are
unspecified there: draw 0 (log entry 6). The ports and the environment: log entries 2, 7, 12, 14. -/
def reset : State :=
  { sr := Config.resetSr 0
    bc := 0#4
    rb0 := Config.resetRb0 0
    rb1 := Config.resetRb1 0
    phase := Phase.idle
    cpf := .rise
    dir := .tx
    flags := 0#4
    sclOut := .released
    sdaOut := .released
    tslp := 0
    tslfr := 0
    lrv := Config.resetLrv 0
    ccv := Config.resetCcv 0
    sclIn := .high
    sdaIn := .high
    rstHeld := false
    cmds := []
    done := none
    published := none
    cfg := defaultParams
    armed := false
    inbox := []
    draws := 1 }

end State

end Sys2Proof.Machine
end

