-- ==== Sys2Proof/Machine/Flags.lean ====
section
/-! DEFINITION. The flags and the one-bit conditions of the block (10_state.md R29 to R33, 30_encoding.md R94). -/

namespace Sys2Proof.Machine

/-- TREQ, TransmitRequested: FLAGS bit 0 (R29, R30). -/
def treq (f : FlagWord) : Bool := f.getLsbD 0

/-- FBE, FirstByteExpected: FLAGS bit 1 (R29, R31). -/
def fbe (f : FlagWord) : Bool := f.getLsbD 1

/-- RRQ, ResetRequested: FLAGS bit 2 (R29, R32). -/
def rrq (f : FlagWord) : Bool := f.getLsbD 2

/-- PUB, PublishRequested: FLAGS bit 3 (R29, R33). -/
def pub (f : FlagWord) : Bool := f.getLsbD 3

/-- `TREQ <- 0` (R176). -/
def clearTreq (f : FlagWord) : FlagWord := f &&& 0b1110#4

/-- `FBE <- 0` (R177). -/
def clearFbe (f : FlagWord) : FlagWord := f &&& 0b1101#4

/-- `PUB <- 0` (44_result_filter.md R216). -/
def clearPub (f : FlagWord) : FlagWord := f &&& 0b0111#4

/-- `TREQ <- 1; FBE <- 1`, the scheduler's request (43_poll_scheduler.md R200). -/
def setRequest (f : FlagWord) : FlagWord := f ||| 0b0011#4

/-- `PUB <- 1` (R200). -/
def setPub (f : FlagWord) : FlagWord := f ||| 0b1000#4

/-- `FLAGS <- FLAGS OR m` (45_host_interface.md R230). -/
def orFlags (f m : FlagWord) : FlagWord := f ||| m

/-- The FSET word of "connected": PUB (R232). -/
def connectedWord : FlagWord := 0b1000#4

/-- The FSET word of "connection error": RRQ (R233). -/
def connectionErrorWord : FlagWord := 0b0100#4

/-- QUIET: SCL observed high and SDA observed high, on this tick's samples (R94, 42_sequencer.md R163). -/
def quiet (s : State) : Bool :=
  decide (s.sclIn = .high) && decide (s.sdaIn = .high)

/-- BCZ: BC = 0 (R94). -/
def bitCountZero (s : State) : Bool :=
  decide (s.bc = 0#4)

end Sys2Proof.Machine
end

