-- ==== Sys2Proof/Machine/Operands.lean ====
section
/-! DEFINITION. Value encodings (30_encoding.md R100), the operation select word (R94), the address byte (R91), the
sampled level (40_line_driver.md R123) and the shifts of SR (41_bit_engine.md R154). -/

namespace Sys2Proof.Machine

/-- CPF: RISE 0, FALL 1 (R27, R100). -/
def clockBit (c : ClockPhase) : BitVec 1 :=
  match c with
  | .rise => 0#1
  | .fall => 1#1

/-- DIR: TX 0, RX 1 (R28, R100). -/
def directionBit (d : Direction) : BitVec 1 :=
  match d with
  | .tx => 0#1
  | .rx => 1#1

/-- A level: Low 0, High 1 (R100). -/
def levelBit (v : Level) : BitVec 1 :=
  match v with
  | .low => 0#1
  | .high => 1#1

/-- A latch: DrivenLow 0, Released 1, the level the block contributes to the wired-AND (R34, R100). -/
def latchBit (v : Latch) : BitVec 1 :=
  match v with
  | .drivenLow => 0#1
  | .released => 1#1

/-- OSW = PH ‖ CP ‖ DR ‖ BCZ ‖ FB ‖ TQ ‖ QT (R94). -/
def osw (s : State) : Osw :=
  s.phase ++ clockBit s.cpf ++ directionBit s.dir ++ BitVec.ofBool (bitCountZero s) ++
    BitVec.ofBool (fbe s.flags) ++ BitVec.ofBool (treq s.flags) ++ BitVec.ofBool (quiet s)

/-- `level(L)`: a line the block drives low reads low whatever the peer does; a released line reads as the peer
leaves it (R123). -/
def senseLevel (out : Latch) (peer : Level) : Level :=
  match out with
  | .drivenLow => .low
  | .released => peer

/-- RW, bit 0 of the address byte: 0 (write) when RRQ = 1, 1 (read) when RRQ = 0 (R91, R165). -/
def readWriteBit (f : FlagWord) : BitVec 8 :=
  if rrq f then 0#8 else 1#8

/-- The address byte: `trunc_8((SLAVE_ADDR7 << 1) | RW)` (R91). -/
def addressByte (addr : BitVec 7) (f : FlagWord) : Byte :=
  (addr.setWidth 8 <<< 1) ||| readWriteBit f

/-- `trunc_8(SR << 1)` (41_bit_engine.md R146). -/
def shiftOut (sr : Byte) : Byte :=
  sr <<< 1

/-- `trunc_8((SR << 1) | zext_8(sda_in))` (R143). -/
def shiftIn (sr : Byte) (v : Level) : Byte :=
  (sr <<< 1) ||| (levelBit v).setWidth 8

/-- `zext_8(sda_in)`: 0x00 = ACK, 0x01 = NACK (42_sequencer.md R168). -/
def acknowledgeRecord (v : Level) : Byte :=
  (levelBit v).setWidth 8

end Sys2Proof.Machine
end

