-- ==== Sys2Proof/Machine/Ops.lean ====
section
/-! DEFINITION. The operations the meanings share: the line driver (40_line_driver.md), the two halves of a clock
period, the bit count, the recovery from an unrecognised phase, reset. -/

namespace Sys2Proof.Machine

/-- `release(L)`: the latch of L only; the command is emitted after those already given (R121, R126). -/
def release (l : Line) (s : State) : State :=
  match l with
  | .scl => { s with sclOut := .released, cmds := s.cmds ++ [.release .scl] }
  | .sda => { s with sdaOut := .released, cmds := s.cmds ++ [.release .sda] }

/-- `driveLow(L)`: the latch of L only; the command is emitted after those already given (R122, R126). -/
def driveLow (l : Line) (s : State) : State :=
  match l with
  | .scl => { s with sclOut := .drivenLow, cmds := s.cmds ++ [.driveLow .scl] }
  | .sda => { s with sdaOut := .drivenLow, cmds := s.cmds ++ [.driveLow .sda] }

/-- `if b = 1 then release(SDA) else driveLow(SDA)` (41_bit_engine.md R146; R127: a 1 is sent by releasing). -/
def putBit (b : Bool) (s : State) : State :=
  if b then release .sda s else driveLow .sda s

/-- What every rising half does: `release(SCL)`, `CPF <- FALL` (R142, R143, 42_sequencer.md R167, R180). -/
def risingHalf (s : State) : State :=
  (release .scl s).setCpf .fall

/-- What every falling half does first: `driveLow(SCL)`, `CPF <- RISE` (R144, 42_sequencer.md R175). -/
def fallingHalf (s : State) : State :=
  (driveLow .scl s).setCpf .rise

/-- `BC <- BC - 1`. BC = 0 is the reserved situation of R97: a fault of the model, never a wrapped counter (D14). -/
def countBit (s : State) : Result :=
  if s.bc = 0#4 then .fault .reservedOperation else .next (s.setBc (s.bc - 1#4))

/-- `BC <- 8; PHASE <- AddressOrData`: the entry of a byte (42_sequencer.md R166, R176, R177). -/
def beginByte (s : State) : State :=
  (s.setBc Config.bitsPerByte).setPhase Phase.addressOrData

/-- `raise InvalidPhase` (00_scope.md R15, 60_exceptions.md R251): `PHASE <- Stop; CPF <- RISE` and nothing else. No
pc, status or cause is saved, and there is no return operation (R260, R261). -/
def takeInvalidPhase (s : State) : State :=
  (s.setPhase Phase.stop).setCpf .rise

/-- `done(RB[0], RB[1])` (42_sequencer.md R181). -/
def raiseDone (s : State) : State :=
  s.setDone (some (s.rb0, s.rb1))

/-- The reset input asserted (10_state.md R41, 70_reset_and_hazards.md R290): every register at its reset value, both
lines released, no line command, no STOP (R292). The unspecified registers take a new draw (log entry 6). The
environment's own fields stay (log entry 14). -/
def resetBlock (s : State) : State :=
  { s with
    sr := Config.resetSr s.draws
    bc := 0#4
    rb0 := Config.resetRb0 s.draws
    rb1 := Config.resetRb1 s.draws
    phase := Phase.idle
    cpf := .rise
    dir := .tx
    flags := 0#4
    sclOut := .released
    sdaOut := .released
    tslp := 0
    tslfr := 0
    lrv := Config.resetLrv s.draws
    ccv := Config.resetCcv s.draws
    rstHeld := true
    draws := s.draws + 1 }

/-- Whether the parameters are those of a block (00_scope.md R10, R11, 93_implementation_defined.md U11).
SLAVE_ADDR7 is in range by its type, and counters that are naturals set no upper bound (log entry 13). -/
def configLegal (p : Params) : Bool :=
  decide (60 ≤ p.pollInterval) && decide (1 ≤ p.forcedCount)

/-- The outputs of a step are those of that step alone (R36, R126, R181; log entry 12). -/
def clearOutputs (s : State) : State :=
  { s with cmds := [], done := none, published := none }

/-- Step 1 of a tick: both levels are sampled once, before any command of the tick (40_line_driver.md R124,
42_sequencer.md R184). -/
def sampleLines (peerScl peerSda : Level) (s : State) : State :=
  { s with sclIn := senseLevel s.sclOut peerScl, sdaIn := senseLevel s.sdaOut peerSda }

end Sys2Proof.Machine
end

