-- ==== Sys2Proof/Machine/Engine.lean ====
section
/-! DEFINITION. The Bit-Level Transfer Engine: the seven operations of phase AddressOrData (41_bit_engine.md). -/

namespace Sys2Proof.Machine

/-- XFER.RISE.TX (R142). -/
def execXferRiseTx (s : State) : Result :=
  countBit (risingHalf s)

/-- XFER.RISE.RX (R143). -/
def execXferRiseRx (s : State) : Result :=
  countBit ((risingHalf s).setSr (shiftIn s.sr s.sdaIn))

/-- XFER.FALL.TXBIT (R146). -/
def execXferFallTxbit (s : State) : Result :=
  .next ((putBit (s.sr.getLsbD 7) (fallingHalf s)).setSr (shiftOut s.sr))

/-- XFER.FALL.TXEND (R147). -/
def execXferFallTxend (s : State) : Result :=
  .next ((release .sda (fallingHalf s)).setPhase Phase.ack)

/-- XFER.FALL.RXHOLD (R148). -/
def execXferFallRxhold (s : State) : Result :=
  .next (fallingHalf s)

/-- XFER.FALL.RXACK (R149): SDA low is ACK. -/
def execXferFallRxack (s : State) : Result :=
  .next ((driveLow .sda (fallingHalf s)).setPhase Phase.ack)

/-- XFER.FALL.RXNACK (R150): SDA released is NACK. -/
def execXferFallRxnack (s : State) : Result :=
  .next ((release .sda (fallingHalf s)).setPhase Phase.ack)

/-- The reserved row (30_encoding.md R97): "a fault of the model (no next state), never ... a value". -/
def execReserved (_s : State) : Result :=
  .fault .reservedOperation

end Sys2Proof.Machine
end

