-- ==== Sys2Proof/Machine/Host.lean ====
section
/-! DEFINITION. The host's one operation (45_host_interface.md R230). -/

namespace Sys2Proof.Machine

/-- FSET m (R230): `FLAGS <- FLAGS OR m`. -/
def execFset (m : FlagWord) (s : State) : Result :=
  .next (s.setFlags (orFlags s.flags m))

end Sys2Proof.Machine
end

