-- ==== Sys2Proof/Machine/Sequencer.lean ====
section
/-! DEFINITION. The Transaction State Machine: phases Idle, Start, Ack and Stop and the unrecognised phases
(42_sequencer.md). -/

namespace Sys2Proof.Machine

/-- IDLE.WAIT (R161): nothing is written. -/
def execIdleWait (s : State) : Result :=
  .next s

/-- IDLE.GO (R162). -/
def execIdleGo (s : State) : Result :=
  .next (s.setPhase Phase.start)

/-- START.RETRY (R164): SCL first (D5, D20). -/
def execStartRetry (s : State) : Result :=
  .next (release .sda (release .scl s))

/-- START.COND (R166). -/
def execStartCond (s : State) : Result :=
  .next (beginByte
    ((((driveLow .sda s).setSr (addressByte s.cfg.slaveAddr7 s.flags)).setDir .tx).setCpf .fall))

/-- ACK.RISE.TX (R168). -/
def execAckRiseTx (s : State) : Result :=
  .next ((risingHalf s).setSr (acknowledgeRecord s.sdaIn))

/-- ACK.RISE.RX0 (R169). -/
def execAckRiseRx0 (s : State) : Result :=
  .next ((risingHalf s).setRb0 s.sr)

/-- ACK.RISE.RX1 (R170). -/
def execAckRiseRx1 (s : State) : Result :=
  .next ((risingHalf s).setRb1 s.sr)

/-- ACK.FALL.TURN (R176): SDA is not commanded, SR is not read (R172). -/
def execAckFallTurn (s : State) : Result :=
  .next (beginByte (((fallingHalf s).setFlags (clearTreq s.flags)).setDir .rx))

/-- ACK.FALL.NEXT (R177). -/
def execAckFallNext (s : State) : Result :=
  .next (beginByte ((release .sda (fallingHalf s)).setFlags (clearFbe s.flags)))

/-- ACK.FALL.LAST (R178). -/
def execAckFallLast (s : State) : Result :=
  .next ((driveLow .sda (fallingHalf s)).setPhase Phase.stop)

/-- STOP.SCL (R180). -/
def execStopScl (s : State) : Result :=
  .next (risingHalf s)

/-- STOP.SDA (R182): SCL is not commanded. -/
def execStopSda (s : State) : Result :=
  .next (raiseDone (((release .sda s).setCpf .rise).setPhase Phase.idle))

/-- FAULT.RECOVER for PHASE = 5 (R183). -/
def execFaultRecover5 (s : State) : Result :=
  .next (takeInvalidPhase s)

/-- FAULT.RECOVER for PHASE = 6 and 7 (R183). -/
def execFaultRecover67 (s : State) : Result :=
  .next (takeInvalidPhase s)

end Sys2Proof.Machine
end

