-- ==== Sys2Proof/Machine/Dispatch.lean ====
section
/-! DEFINITION. One arm per operation. -/

namespace Sys2Proof.Machine

def exec (i : Instr) (s : State) : Host.Outcome State Fault Refusal :=
  match i with
  | .idleWait => Sys2Proof.Machine.execIdleWait s
  | .idleGo => Sys2Proof.Machine.execIdleGo s
  | .startRetry => Sys2Proof.Machine.execStartRetry s
  | .startCond => Sys2Proof.Machine.execStartCond s
  | .xferRiseTx => Sys2Proof.Machine.execXferRiseTx s
  | .xferRiseRx => Sys2Proof.Machine.execXferRiseRx s
  | .xferFallTxbit => Sys2Proof.Machine.execXferFallTxbit s
  | .xferFallTxend => Sys2Proof.Machine.execXferFallTxend s
  | .xferFallRxhold => Sys2Proof.Machine.execXferFallRxhold s
  | .xferFallRxack => Sys2Proof.Machine.execXferFallRxack s
  | .xferFallRxnack => Sys2Proof.Machine.execXferFallRxnack s
  | .ackRiseTx => Sys2Proof.Machine.execAckRiseTx s
  | .ackRiseRx0 => Sys2Proof.Machine.execAckRiseRx0 s
  | .ackRiseRx1 => Sys2Proof.Machine.execAckRiseRx1 s
  | .ackFallTurn => Sys2Proof.Machine.execAckFallTurn s
  | .ackFallNext => Sys2Proof.Machine.execAckFallNext s
  | .ackFallLast => Sys2Proof.Machine.execAckFallLast s
  | .stopScl => Sys2Proof.Machine.execStopScl s
  | .stopSda => Sys2Proof.Machine.execStopSda s
  | .faultRecover5 => Sys2Proof.Machine.execFaultRecover5 s
  | .faultRecover67 => Sys2Proof.Machine.execFaultRecover67 s
  | .reserved => Sys2Proof.Machine.execReserved s
  | .fset m => Sys2Proof.Machine.execFset m s

end Sys2Proof.Machine
end

