-- ==== Sys2Proof/Machine/Poll.lean ====
section
/-! DEFINITION. The Poll Scheduler, outside CORE (43_poll_scheduler.md). -/

namespace Sys2Proof.Machine

/-- The part of POLL.STEP done at a poll: request a transaction and count towards a forced report (R200). -/
def poll (s : State) : State :=
  if s.tslfr + 1 = s.cfg.forcedCount then
    { s with tslp := 0, tslfr := 0, flags := setPub (setRequest s.flags) }
  else
    { s with tslp := 0, tslfr := s.tslfr + 1, flags := setRequest s.flags }

/-- POLL.STEP (R200): both tests are made on the incremented value. -/
def pollStep (s : State) : State :=
  if s.tslp + 1 = s.cfg.pollInterval then poll s else { s with tslp := s.tslp + 1 }

end Sys2Proof.Machine
end

