-- ==== Sys2Proof/Machine/Report.lean ====
section
/-! DEFINITION. The Result Filter/Reporter, outside CORE (44_result_filter.md), and the publish payload
(30_encoding.md R101). -/

namespace Sys2Proof.Machine

/-- round10 (R213). -/
def round10 (n : Nat) : Nat :=
  if n % 10 ≤ 4 then n - n % 10 else n - n % 10 + 10

/-- The value of a pair of received bytes, first matching case (R211, R212, R214). -/
def filterValue (byte0 byte1 : Byte) : BitVec 16 :=
  if byte0.toNat > Config.rangeMax ∨ byte1.toNat > Config.rangeMax then Config.sentinel
  else if byte0.toNat = 0 ∧ byte1.toNat < Config.noiseLimit then 0#16
  else BitVec.ofNat 16 (100 * byte0.toNat + round10 byte1.toNat)

/-- The character of a decimal digit. -/
def digitChar (d : Nat) : Char :=
  Char.ofNat (48 + d)

/-- Decimal digits, the most significant first; `fuel` bounds their number. -/
def digitsWithFuel (fuel n : Nat) : List Char :=
  match fuel with
  | 0 => []
  | fuel + 1 => if n < 10 then [digitChar n] else digitsWithFuel fuel (n / 10) ++ [digitChar (n % 10)]

/-- A number in decimal without sign, leading zeros or separators (R101, D26). -/
def decimal (n : Nat) : List Char :=
  digitsWithFuel (n + 1) n

/-- The opening brace, which no string of a model may hold. -/
def openBrace : Char := Char.ofNat 123

/-- The closing brace. -/
def closeBrace : Char := Char.ofNat 125

/-- The fixed JSON shape around the value (R101). -/
def payload (v : BitVec 16) : List Char :=
  [openBrace, '"', 'c', 'o', 'l', 'u', 'm', 'n', 's', '"', ':', '[', '[', '"', 'C', 'o', 'f', 'f', 'e', 'e',
    '"', ',', '"'] ++ decimal v.toNat ++ ['"', ']', ']', closeBrace]

/-- The reporting decision (R215), made on the new CCV. -/
def mustReport (value : BitVec 16) (s : State) : Bool :=
  decide (value ≠ s.lrv) || pub s.flags

/-- FILTER.REPORT on (byte0, byte1) (R210 to R216). -/
def filterReport (byte0 byte1 : Byte) (s : State) : State :=
  let value := filterValue byte0 byte1
  if mustReport value s then
    { s with
      ccv := value
      lrv := value
      flags := clearPub s.flags
      published := some ⟨s.cfg.channel, payload value⟩ }
  else
    { s with ccv := value }

/-- Step 4 of a tick: the Reporter runs when the operation raised `done` (42_sequencer.md R184). -/
def reportIfDone (s : State) : State :=
  match s.done with
  | some (byte0, byte1) => filterReport byte0 byte1 s
  | none => s

end Sys2Proof.Machine
end

