-- ==== Sys2Proof/Machine/Tick.lean ====
section
/-! DEFINITION. The step of a tick (42_sequencer.md R184), the moves of the environment (45_host_interface.md) and how
a word of the operation map is made the next to run. -/

namespace Sys2Proof.Machine

/-- Steps 4 and 5 of a tick: the Reporter if `done`, then the Poll Scheduler (R184). -/
def afterOperation (r : Result) : Result :=
  match r with
  | .next s => .next (pollStep (reportIfDone s))
  | .fault f => .fault f
  | .refused f => .refused f

/-- Steps 2 to 5 of a tick, on a state that holds the samples: assemble OSW, decode, perform, report, poll (R184). -/
def tickOperation (s : State) : Result :=
  afterOperation (exec (decodeOsw (osw s)) s)

/-- A tick with the peer's drive of the two lines. While rst is asserted no tick is performed (R290). -/
def performTick (peerScl peerSda : Level) (s : State) : Result :=
  if s.rstHeld then .next s else tickOperation (sampleLines peerScl peerSda s)

/-- A host step: the flag-set word is decoded and performed, outside any tick (R230). While rst is asserted no FSET
is accepted (R290). -/
def hostStep (m : FlagWord) (s : State) : Result :=
  if s.rstHeld then .next s else exec (decodeFlagWord m) s

/-- The effect of one move of the environment. -/
def performEvent (e : EnvEvent) (s : State) : Result :=
  match e with
  | .tick peerScl peerSda => performTick peerScl peerSda (clearOutputs s)
  | .fset m => hostStep m (clearOutputs s)
  | .connected => hostStep connectedWord { clearOutputs s with armed := true }
  | .connectionError => hostStep connectionErrorWord (clearOutputs s)
  | .rst true => .next (resetBlock (clearOutputs s))
  | .rst false => .next { clearOutputs s with rstHeld := false }
  | .quiet => .next (clearOutputs s)

/-- A move as it reaches the block: before "connected" no tick is delivered (45_host_interface.md R232; log entry 4). -/
def deliverable (armed : Bool) (e : EnvEvent) : EnvEvent :=
  match e with
  | .tick peerScl peerSda => if armed then .tick peerScl peerSda else .quiet
  | .fset m => .fset m
  | .connected => .connected
  | .connectionError => .connectionError
  | .rst b => .rst b
  | .quiet => .quiet

/-- The move the environment has ready: the oldest that waits, else a free one (log entries 2 and 3). -/
def pendingEvent (s : State) : EnvEvent :=
  match s.inbox with
  | e :: _ => e
  | [] => Config.freeEvent s.draws

/-- The next move that reaches the block. -/
def nextEvent (s : State) : EnvEvent :=
  deliverable s.armed (pendingEvent s)

/-- The state once that move has been taken. -/
def takeEvent (s : State) : State :=
  match s.inbox with
  | _ :: rest => { s with inbox := rest }
  | [] => { s with draws := s.draws + 1 }

/-- One step of the machine: one move of the environment, refused where the parameters are no configuration of the
block (93_implementation_defined.md U11). -/
def environmentStep (s : State) : Result :=
  if configLegal s.cfg then performEvent (nextEvent s) (takeEvent s) else .refused .illegalConfiguration

/-- FLAGS with FBE and TREQ as the word's FB and TQ fields have them (R94). -/
def stageFlags (w : Osw) (f : FlagWord) : FlagWord :=
  (f &&& 0b1100#4) ||| (BitVec.ofBool (w.getLsbD 2) ++ BitVec.ofBool (w.getLsbD 1)).setWidth 4

/-- BC with BC = 0 as the word's BCZ field has it: kept where it already agrees. -/
def stageCount (w : Osw) (bc : BitVec 4) : BitVec 4 :=
  if w.getLsbD 3 then 0#4 else if bc = 0#4 then Config.bitsPerByte else bc

/-- The latches: QT = 1 needs both released (R94, R123); otherwise they are kept. -/
def stageLatch (w : Osw) (v : Latch) : Latch :=
  if w.getLsbD 0 then .released else v

/-- What the peer does to both lines so that QT is as the word has it. -/
def stagePeer (w : Osw) : Level :=
  if w.getLsbD 0 then .high else .low

/-- The state in which the next tick assembles exactly `w`, with that tick the next move and its source armed
(log entry 15). -/
def stageOsw (w : Osw) (s : State) : State :=
  { s with
    phase := w.extractLsb' 6 3
    cpf := if w.getLsbD 5 then .fall else .rise
    dir := if w.getLsbD 4 then .rx else .tx
    bc := stageCount w s.bc
    flags := stageFlags w s.flags
    sclOut := stageLatch w s.sclOut
    sdaOut := stageLatch w s.sdaOut
    rstHeld := false
    armed := true
    inbox := .tick (stagePeer w) (stagePeer w) :: s.inbox }

/-- The state in which the host's FSET m is the next move. -/
def stageFlagWord (m : FlagWord) (s : State) : State :=
  { s with rstHeld := false, inbox := .fset m :: s.inbox }

/-- A table word staged: format H for at most eight bits, format T for more. -/
def stageWord (nbits w : Nat) (s : State) : State :=
  if nbits ≤ 8 then stageFlagWord (BitVec.ofNat 4 w) s else stageOsw (BitVec.ofNat 9 w) s

end Sys2Proof.Machine
end

