-- ==== Sys2Proof/Machine/Step.lean ====
section
/-! DEFINITION. One step, and the staging of an instruction's word. -/

namespace Sys2Proof.Machine

/-- One step of the machine (20_memory.md R73: one total order of tick steps and host steps). -/
def step (s : State) : Host.Outcome State Fault Refusal :=
  environmentStep s

/-- `s` with the word `w` made what the very next step performs (log entry 15). -/
def State.withFetchWord (s : State) (nbits w : Nat) : State :=
  stageWord nbits w s

end Sys2Proof.Machine
end

