-- ==== Sys2Proof/Safety.lean ====
section
/-! DEFINITION. The words claims are stated in: a tick that is about to be performed, the invariant of the states a
run reaches, sequences of ticks, and the byte eight samples make. -/

namespace Sys2Proof.Machine

/-- The parameters are a block's, rst is not asserted, "connected" has armed the tick source, and the next move is a
tick with this drive of the lines. -/
def TickNext (s : State) (peerScl peerSda : Level) : Prop :=
  configLegal s.cfg = true ∧ s.rstHeld = false ∧ s.armed = true ∧ ∃ rest, s.inbox = .tick peerScl peerSda :: rest

/-- The situation of the reserved row: a rising tick of the engine with BC = 0 (30_encoding.md R97). -/
def AtReserved (s : State) : Prop :=
  s.phase = Phase.addressOrData ∧ s.cpf = .rise ∧ s.bc = 0#4

/-- The line a command is for. -/
def lineOf (c : LineCommand) : Line :=
  match c with
  | .release l => l
  | .driveLow l => l

/-- The invariant of reachable states (10_state.md R42 (a), R43): each field names its clause. -/
structure BlockInv (s : State) : Prop where
  /-- The parameters are a block's (U11). -/
  config : configLegal s.cfg = true
  /-- R43 (a). -/
  phase : s.phase.toNat ≤ 4
  /-- R43 (b), and SDA in Start (42_sequencer.md R163). -/
  linesFree : s.phase = Phase.idle ∨ s.phase = Phase.start → s.sclOut = .released ∧ s.sdaOut = .released
  /-- R43 (c), rising ticks. -/
  clockLow : s.phase = Phase.addressOrData ∨ s.phase = Phase.ack ∨ s.phase = Phase.stop →
    s.cpf = .rise → s.sclOut = .drivenLow
  /-- R43 (c), falling ticks. -/
  clockHigh : s.phase = Phase.addressOrData ∨ s.phase = Phase.ack ∨ s.phase = Phase.stop →
    s.cpf = .fall → s.sclOut = .released
  /-- R43 (d), rising ticks. -/
  countRise : s.phase = Phase.addressOrData → s.cpf = .rise → 1 ≤ s.bc.toNat ∧ s.bc.toNat ≤ 8
  /-- R43 (d), falling ticks. -/
  countFall : s.phase = Phase.addressOrData → s.cpf = .fall → s.bc.toNat ≤ (if s.dir = .tx then 8 else 7)
  /-- R42 (a): BC is nonzero in AddressOrData only. -/
  countElsewhere : s.phase ≠ Phase.addressOrData → s.bc = 0#4
  /-- What R43 (e) needs: the bits already sent have left SR. -/
  sentFall : s.phase = Phase.addressOrData → s.dir = .tx → s.cpf = .fall → s.sr <<< s.bc.toNat = 0#8
  /-- The same at a rising tick, where the bit on SDA has left SR too. -/
  sentRise : s.phase = Phase.addressOrData → s.dir = .tx → s.cpf = .rise → s.sr <<< (s.bc.toNat - 1) = 0#8
  /-- SDA is released while a byte is received (41_bit_engine.md R143). -/
  receiving : s.phase = Phase.addressOrData → s.dir = .rx → s.sdaOut = .released
  /-- SDA is released for the slave's acknowledge (41_bit_engine.md R147). -/
  acknowledged : s.phase = Phase.ack → s.dir = .tx → s.sdaOut = .released
  /-- SDA is low before the STOP condition (40_line_driver.md R128). -/
  stopping : s.phase = Phase.stop → s.sdaOut = .drivenLow
  /-- The counters stay below their parameters (43_poll_scheduler.md R202). -/
  counters : s.tslp < s.cfg.pollInterval ∧ s.tslfr < s.cfg.forcedCount

/-- `n` steps from `s`. -/
def run (n : Nat) (s : State) : Result :=
  Sys2Proof.core.run n s

/-- `n` ticks in a row; at the k-th, counted from 1, the peer does `peerScl k` and `peerSda k` to the lines. -/
def ticks (peerScl peerSda : Nat → Level) (n : Nat) : List EnvEvent :=
  (List.range n).map fun k => .tick (peerScl (k + 1)) (peerSda (k + 1))

/-- The byte of eight levels, the first in bit 7 (41_bit_engine.md R152). -/
def byteOfLevels (v : List Level) : Byte :=
  v.foldl (fun b x => BitVec.ofNat 8 (2 * b.toNat + (if x = .high then 1 else 0))) 0#8

end Sys2Proof.Machine
end

