-- ==== Sys2Proof/Certificates/Slice0/Obligations.lean ====
section
/-! DEFINITION. The statements for the provers. Every operation select word, every mask and pattern is the spec's own
encoding (decision D6 of 92_eei_decisions.md); a statement that rests on another decision or derivation of the spec, or
on a log entry of the model, says so. -/

open Sys2Proof Sys2Proof.Machine

/-- O1. The registers to which 10_state.md R41 gives a value hold it at reset, and no tick has been armed (R291).
The values but "initial = Idle" are the spec's decision D13; that State.reset describes the instance with the default
poll interval 5000 and the default forced count 60 is the model's choice (log entry 8). -/
def Obligations.ResetValues : Prop :=
  State.reset.phase = 0#3 ∧ State.reset.bc = 0#4 ∧ State.reset.cpf = .rise ∧ State.reset.dir = .tx ∧
    State.reset.flags = 0b0000#4 ∧ State.reset.sclOut = .released ∧ State.reset.sdaOut = .released ∧
    State.reset.tslp = 0 ∧ State.reset.tslfr = 0 ∧ State.reset.armed = false ∧
    State.reset.cfg.pollInterval = 5000 ∧ State.reset.cfg.forcedCount = 60

/-- O2. The invariant of 10_state.md R42 (a) and R43 holds at reset. The register values are the spec's decision D13; its
clauses on the parameters and the counters rest on the parameters the model gives State.reset (log entry 8). -/
def Obligations.ResetMeetsInvariant : Prop :=
  BlockInv State.reset

/-- O3. From every state of the invariant every step, whatever move of the environment it takes, answers a next state
of the invariant: no run stops (10_state.md R42 (a), R43, derived by the spec). -/
def Obligations.StepKeepsInvariant : Prop :=
  ∀ s, BlockInv s → ∃ t, step s = .next t ∧ BlockInv t

/-- O4. The fields of the operation select word (30_encoding.md R94, decision D6). -/
def Obligations.OswFields : Prop :=
  ∀ s : State,
    (osw s).extractLsb' 6 3 = s.phase ∧ ((osw s).getLsbD 5 = true ↔ s.cpf = .fall) ∧
    ((osw s).getLsbD 4 = true ↔ s.dir = .rx) ∧ ((osw s).getLsbD 3 = true ↔ s.bc = 0#4) ∧
    ((osw s).getLsbD 2 = true ↔ s.flags.getLsbD 1 = true) ∧
    ((osw s).getLsbD 1 = true ↔ s.flags.getLsbD 0 = true) ∧
    ((osw s).getLsbD 0 = true ↔ s.sclIn = .high ∧ s.sdaIn = .high)

/-- O5. Every word is selected by exactly one row, the row the decoder answers (R95, R97, derived by enumeration). -/
def Obligations.MapCoversOnce : Prop :=
  (∀ w : Osw, ∃ r ∈ operationMap, r.selects w = true) ∧
    ∀ r ∈ operationMap, ∀ w : Osw, decodeOsw w = r.instr ↔ w &&& r.mask = r.pat

/-- O6. Words written out from R96 to R98 decode to the operation they stand for. -/
def Obligations.WordsDecode : Prop :=
  decodeBytes [0b00001111#8, 0b0#8] = .ok .idleGo ∧ decodeBytes [0b01001110#8, 0b0#8] = .ok .startRetry ∧
    decodeBytes [0b10010100#8, 0b0#8] = .ok .xferRiseRx ∧ decodeBytes [0b10111101#8, 0b0#8] = .ok .xferFallRxack ∧
    decodeBytes [0b11111100#8, 0b0#8] = .ok .ackFallNext ∧ decodeBytes [0b00111000#8, 0b1#8] = .ok .stopSda ∧
    decodeBytes [0b10110110#8, 0b1#8] = .ok .faultRecover67 ∧ decodeBytes [0b10001110#8, 0b0#8] = .ok .reserved ∧
    decodeBytes [0b0011#8] = .ok (.fset 0b0011#4)

/-- O7. Decoding the encoding of a well-formed instruction gives it back, FSET at every mask. The bytes are the
model's (log entry 11). -/
def Obligations.DecodeInvertsEncode : Prop :=
  ∀ i : Instr, i.wellFormed = true →
    decodeBytes (encode i) = .ok i ∧ decodeTableWord (if i.isHostWord then 8 else 16) i.word.toNat = some i

/-- O8. With a tick next, the step samples the lines, runs the operation the select word decodes to, and then the
Reporter and the Poll Scheduler (42_sequencer.md R184, decision D15); a fault of the operation is the step's. -/
def Obligations.StepRunsDecoded : Prop :=
  ∀ (s : State) (p q : Level) (rest : List EnvEvent),
    configLegal s.cfg = true → s.rstHeld = false → s.armed = true → s.inbox = .tick p q :: rest →
    ∀ u : State, u = { s with
      inbox := rest, cmds := [], done := none, published := none
      sclIn := if s.sclOut = .released then p else .low
      sdaIn := if s.sdaOut = .released then q else .low } →
    (∀ t, exec (decodeOsw (osw u)) u = .next t → step s = .next (pollStep (reportIfDone t))) ∧
      (∀ f, exec (decodeOsw (osw u)) u = .fault f → step s = .fault f)

/-- O9. IDLE.WAIT (R161). -/
def Obligations.IdleWaitEffect : Prop :=
  (∀ w : Osw, decodeOsw w = .idleWait ↔ w &&& 0x1C2#9 = 0x000#9) ∧
  (∀ s : State, decodeOsw (osw s) = .idleWait ↔ s.phase = 0#3 ∧ s.flags.getLsbD 0 = false) ∧
    ∀ s : State, exec .idleWait s = .next s

/-- O10. IDLE.GO (R162; that the tick does nothing else is decision D19). -/
def Obligations.IdleGoEffect : Prop :=
  (∀ w : Osw, decodeOsw w = .idleGo ↔ w &&& 0x1C2#9 = 0x002#9) ∧
  (∀ s : State, decodeOsw (osw s) = .idleGo ↔ s.phase = 0#3 ∧ s.flags.getLsbD 0 = true) ∧
    ∀ s : State, exec .idleGo s = .next { s with phase := 1#3 }

/-- O11. START.RETRY (R164; the order and the absence of a bound are decisions D5, D20). -/
def Obligations.StartRetryEffect : Prop :=
  (∀ w : Osw, decodeOsw w = .startRetry ↔ w &&& 0x1C1#9 = 0x040#9) ∧
  (∀ s : State, decodeOsw (osw s) = .startRetry ↔ s.phase = 1#3 ∧ ¬(s.sclIn = .high ∧ s.sdaIn = .high)) ∧
    ∀ s : State, exec .startRetry s = .next { s with
      sclOut := .released, sdaOut := .released, cmds := s.cmds ++ [.release .scl, .release .sda] }

/-- O12. START.COND (R165, R166; CPF <- FALL is decision D7). -/
def Obligations.StartCondEffect : Prop :=
  (∀ w : Osw, decodeOsw w = .startCond ↔ w &&& 0x1C1#9 = 0x041#9) ∧
  (∀ s : State, decodeOsw (osw s) = .startCond ↔ s.phase = 1#3 ∧ s.sclIn = .high ∧ s.sdaIn = .high) ∧
    ∀ s : State, exec .startCond s = .next { s with
      sdaOut := .drivenLow, cmds := s.cmds ++ [.driveLow .sda]
      sr := BitVec.ofNat 8 (2 * s.cfg.slaveAddr7.toNat + (if s.flags.getLsbD 2 then 0 else 1))
      bc := 8#4, dir := .tx, cpf := .fall, phase := 2#3 }

/-- O13. XFER.RISE.TX (R142; the decrement in both directions is decision D23, BC not 0 is D14). -/
def Obligations.XferRiseTxEffect : Prop :=
  (∀ w : Osw, decodeOsw w = .xferRiseTx ↔ w &&& 0x1F8#9 = 0x080#9) ∧
  (∀ s : State, decodeOsw (osw s) = .xferRiseTx ↔
    s.phase = 2#3 ∧ s.cpf = .rise ∧ s.dir = .tx ∧ s.bc ≠ 0#4) ∧
    ∀ s : State, s.bc ≠ 0#4 → exec .xferRiseTx s = .next { s with
      sclOut := .released, cmds := s.cmds ++ [.release .scl], cpf := .fall
      bc := BitVec.ofNat 4 (s.bc.toNat - 1) }

/-- O14. XFER.RISE.RX (R143; decisions D14 and D23 as for O13). -/
def Obligations.XferRiseRxEffect : Prop :=
  (∀ w : Osw, decodeOsw w = .xferRiseRx ↔ w &&& 0x1F8#9 = 0x090#9) ∧
  (∀ s : State, decodeOsw (osw s) = .xferRiseRx ↔
    s.phase = 2#3 ∧ s.cpf = .rise ∧ s.dir = .rx ∧ s.bc ≠ 0#4) ∧
    ∀ s : State, s.bc ≠ 0#4 → exec .xferRiseRx s = .next { s with
      sclOut := .released, cmds := s.cmds ++ [.release .scl], cpf := .fall
      sr := BitVec.ofNat 8 (2 * s.sr.toNat + (if s.sdaIn = .high then 1 else 0))
      bc := BitVec.ofNat 4 (s.bc.toNat - 1) }

/-- O15. XFER.FALL.TXBIT (R146): bit 7 of SR goes out, SCL first. -/
def Obligations.XferFallTxbitEffect : Prop :=
  (∀ w : Osw, decodeOsw w = .xferFallTxbit ↔ w &&& 0x1F8#9 = 0x0A0#9) ∧
  (∀ s : State, decodeOsw (osw s) = .xferFallTxbit ↔
    s.phase = 2#3 ∧ s.cpf = .fall ∧ s.dir = .tx ∧ s.bc ≠ 0#4) ∧
    ∀ s : State, exec .xferFallTxbit s = .next { s with
      sclOut := .drivenLow, cpf := .rise
      sdaOut := if s.sr.toNat < 128 then .drivenLow else .released
      cmds := s.cmds ++ [.driveLow .scl, if s.sr.toNat < 128 then .driveLow .sda else .release .sda]
      sr := BitVec.ofNat 8 (2 * s.sr.toNat) }

/-- O16. XFER.FALL.TXEND (R147). -/
def Obligations.XferFallTxendEffect : Prop :=
  (∀ w : Osw, decodeOsw w = .xferFallTxend ↔ w &&& 0x1F8#9 = 0x0A8#9) ∧
  (∀ s : State, decodeOsw (osw s) = .xferFallTxend ↔
    s.phase = 2#3 ∧ s.cpf = .fall ∧ s.dir = .tx ∧ s.bc = 0#4) ∧
    ∀ s : State, exec .xferFallTxend s = .next { s with
      sclOut := .drivenLow, sdaOut := .released, cpf := .rise, phase := 3#3
      cmds := s.cmds ++ [.driveLow .scl, .release .sda] }

/-- O17. XFER.FALL.RXHOLD (R148). -/
def Obligations.XferFallRxholdEffect : Prop :=
  (∀ w : Osw, decodeOsw w = .xferFallRxhold ↔ w &&& 0x1F8#9 = 0x0B0#9) ∧
  (∀ s : State, decodeOsw (osw s) = .xferFallRxhold ↔
    s.phase = 2#3 ∧ s.cpf = .fall ∧ s.dir = .rx ∧ s.bc ≠ 0#4) ∧
    ∀ s : State, exec .xferFallRxhold s = .next { s with
      sclOut := .drivenLow, cpf := .rise, cmds := s.cmds ++ [.driveLow .scl] }

/-- O18. XFER.FALL.RXACK and XFER.FALL.RXNACK (R149, R150; the acknowledge levels are decision D10). -/
def Obligations.XferFallAcknowledge : Prop :=
  (∀ w : Osw, decodeOsw w = .xferFallRxack ↔ w &&& 0x1FC#9 = 0x0BC#9) ∧
  (∀ s : State, decodeOsw (osw s) = .xferFallRxack ↔
    s.phase = 2#3 ∧ s.cpf = .fall ∧ s.dir = .rx ∧ s.bc = 0#4 ∧ s.flags.getLsbD 1 = true) ∧
  (∀ w : Osw, decodeOsw w = .xferFallRxnack ↔ w &&& 0x1FC#9 = 0x0B8#9) ∧
  (∀ s : State, decodeOsw (osw s) = .xferFallRxnack ↔
    s.phase = 2#3 ∧ s.cpf = .fall ∧ s.dir = .rx ∧ s.bc = 0#4 ∧ s.flags.getLsbD 1 = false) ∧
  (∀ s : State, exec .xferFallRxack s = .next { s with
      sclOut := .drivenLow, sdaOut := .drivenLow, cpf := .rise, phase := 3#3
      cmds := s.cmds ++ [.driveLow .scl, .driveLow .sda] }) ∧
  (∀ s : State, exec .xferFallRxnack s = .next { s with
      sclOut := .drivenLow, sdaOut := .released, cpf := .rise, phase := 3#3
      cmds := s.cmds ++ [.driveLow .scl, .release .sda] })

/-- O19. ACK.RISE.TX (R168; how the sample is recorded is decision D11, SCL and CPF are D8). -/
def Obligations.AckRiseTxEffect : Prop :=
  (∀ w : Osw, decodeOsw w = .ackRiseTx ↔ w &&& 0x1F0#9 = 0x0C0#9) ∧
  (∀ s : State, decodeOsw (osw s) = .ackRiseTx ↔ s.phase = 3#3 ∧ s.cpf = .rise ∧ s.dir = .tx) ∧
    ∀ s : State, exec .ackRiseTx s = .next { s with
      sclOut := .released, cpf := .fall, cmds := s.cmds ++ [.release .scl]
      sr := if s.sdaIn = .high then 0x01#8 else 0x00#8 }

/-- O20. ACK.RISE.RX0 and ACK.RISE.RX1 (R169, R170; SCL and CPF in the Ack phase are decision D8). -/
def Obligations.AckRiseStores : Prop :=
  (∀ w : Osw, decodeOsw w = .ackRiseRx0 ↔ w &&& 0x1F4#9 = 0x0D4#9) ∧
  (∀ s : State, decodeOsw (osw s) = .ackRiseRx0 ↔
    s.phase = 3#3 ∧ s.cpf = .rise ∧ s.dir = .rx ∧ s.flags.getLsbD 1 = true) ∧
  (∀ w : Osw, decodeOsw w = .ackRiseRx1 ↔ w &&& 0x1F4#9 = 0x0D0#9) ∧
  (∀ s : State, decodeOsw (osw s) = .ackRiseRx1 ↔
    s.phase = 3#3 ∧ s.cpf = .rise ∧ s.dir = .rx ∧ s.flags.getLsbD 1 = false) ∧
  (∀ s : State, exec .ackRiseRx0 s = .next { s with
      sclOut := .released, cpf := .fall, cmds := s.cmds ++ [.release .scl], rb0 := s.sr }) ∧
  (∀ s : State, exec .ackRiseRx1 s = .next { s with
      sclOut := .released, cpf := .fall, cmds := s.cmds ++ [.release .scl], rb1 := s.sr })

/-- O21. ACK.FALL.TURN (R176; SCL and CPF are decision D8): TREQ alone of the flags is cleared. -/
def Obligations.AckFallTurnEffect : Prop :=
  (∀ w : Osw, decodeOsw w = .ackFallTurn ↔ w &&& 0x1F0#9 = 0x0E0#9) ∧
  (∀ s : State, decodeOsw (osw s) = .ackFallTurn ↔ s.phase = 3#3 ∧ s.cpf = .fall ∧ s.dir = .tx) ∧
    ∀ s : State, exec .ackFallTurn s = .next { s with
      sclOut := .drivenLow, cpf := .rise, cmds := s.cmds ++ [.driveLow .scl]
      flags := s.flags &&& 0b1110#4, dir := .rx, bc := 8#4, phase := 2#3 }

/-- O22. ACK.FALL.NEXT (R177; SCL and CPF are decision D8): FBE alone of the flags is cleared. -/
def Obligations.AckFallNextEffect : Prop :=
  (∀ w : Osw, decodeOsw w = .ackFallNext ↔ w &&& 0x1F4#9 = 0x0F4#9) ∧
  (∀ s : State, decodeOsw (osw s) = .ackFallNext ↔
    s.phase = 3#3 ∧ s.cpf = .fall ∧ s.dir = .rx ∧ s.flags.getLsbD 1 = true) ∧
    ∀ s : State, exec .ackFallNext s = .next { s with
      sclOut := .drivenLow, sdaOut := .released, cpf := .rise
      cmds := s.cmds ++ [.driveLow .scl, .release .sda]
      flags := s.flags &&& 0b1101#4, bc := 8#4, phase := 2#3 }

/-- O23. ACK.FALL.LAST (R178; SCL and CPF are decision D8). -/
def Obligations.AckFallLastEffect : Prop :=
  (∀ w : Osw, decodeOsw w = .ackFallLast ↔ w &&& 0x1F4#9 = 0x0F0#9) ∧
  (∀ s : State, decodeOsw (osw s) = .ackFallLast ↔
    s.phase = 3#3 ∧ s.cpf = .fall ∧ s.dir = .rx ∧ s.flags.getLsbD 1 = false) ∧
    ∀ s : State, exec .ackFallLast s = .next { s with
      sclOut := .drivenLow, sdaOut := .drivenLow, cpf := .rise, phase := 4#3
      cmds := s.cmds ++ [.driveLow .scl, .driveLow .sda] }

/-- O24. STOP.SCL and STOP.SDA (R180, R182; telling the two by CPF is decision D9, `done` in this tick is D27). -/
def Obligations.StopEffect : Prop :=
  (∀ w : Osw, decodeOsw w = .stopScl ↔ w &&& 0x1E0#9 = 0x100#9) ∧
  (∀ s : State, decodeOsw (osw s) = .stopScl ↔ s.phase = 4#3 ∧ s.cpf = .rise) ∧
  (∀ w : Osw, decodeOsw w = .stopSda ↔ w &&& 0x1E0#9 = 0x120#9) ∧
  (∀ s : State, decodeOsw (osw s) = .stopSda ↔ s.phase = 4#3 ∧ s.cpf = .fall) ∧
  (∀ s : State, exec .stopScl s = .next { s with
      sclOut := .released, cpf := .fall, cmds := s.cmds ++ [.release .scl] }) ∧
  (∀ s : State, exec .stopSda s = .next { s with
      sdaOut := .released, cpf := .rise, phase := 0#3, done := some (s.rb0, s.rb1)
      cmds := s.cmds ++ [.release .sda] })

/-- O25. FAULT.RECOVER, both rows (R183, R251; CPF <- RISE is decision D12). -/
def Obligations.FaultRecoverEffect : Prop :=
  (∀ w : Osw, decodeOsw w = .faultRecover5 ↔ w &&& 0x1C0#9 = 0x140#9) ∧
  (∀ s : State, decodeOsw (osw s) = .faultRecover5 ↔ s.phase = 5#3) ∧
  (∀ w : Osw, decodeOsw w = .faultRecover67 ↔ w &&& 0x180#9 = 0x180#9) ∧
  (∀ s : State, decodeOsw (osw s) = .faultRecover67 ↔ 6 ≤ s.phase.toNat) ∧
  (∀ s : State, exec .faultRecover5 s = .next { s with phase := 4#3, cpf := .rise }) ∧
  (∀ s : State, exec .faultRecover67 s = .next { s with phase := 4#3, cpf := .rise })

/-- O26. The reserved words stop the run by name, and so does a bit count at 0 in either rising operation of the
engine (R97, decision D14; 93_implementation_defined.md U1). The spec speaks of the select word in a tick: that the row
is a constructor that faults in every state, and that the two rising operations fault at BC = 0 in every state, is the
form the model gives it (log entry 10). -/
def Obligations.ReservedFaults : Prop :=
  (∀ w : Osw, decodeOsw w = .reserved ↔ w &&& 0x1E8#9 = 0x088#9) ∧
  (∀ s : State, decodeOsw (osw s) = .reserved ↔ s.phase = 2#3 ∧ s.cpf = .rise ∧ s.bc = 0#4) ∧
  (∀ s : State, exec .reserved s = .fault .reservedOperation) ∧
  (∀ s : State, s.bc = 0#4 →
    exec .xferRiseTx s = .fault .reservedOperation ∧ exec .xferRiseRx s = .fault .reservedOperation)

/-- O27. FSET m is a step of its own between ticks: it sets flags and changes nothing else of the block (R230,
decision D16). -/
def Obligations.FsetEffect : Prop :=
  (∀ (m : FlagWord) (s : State), exec (.fset m) s = .next { s with flags := s.flags ||| m }) ∧
  (∀ (m : FlagWord) (s : State) (rest : List EnvEvent),
    configLegal s.cfg = true → s.rstHeld = false → s.inbox = .fset m :: rest →
    step s = .next { s with
      flags := s.flags ||| m, inbox := rest, cmds := [], done := none, published := none })

/-- O28. The transition table (R160), in the order of its rows: a tick from any state moves PHASE as the table says
and no other way, and only the reserved situation has no next state. The numbers of the phases are decision D2, the
halves told apart by CPF are D8 and D9, the reserved situation is D14. -/
def Obligations.PhaseTransitions : Prop :=
  ∀ (s : State) (p q : Level), TickNext s p q →
    (AtReserved s → step s = .fault .reservedOperation) ∧
    (¬AtReserved s → ∃ t, step s = .next t ∧
      (s.phase = 0#3 → t.phase = if s.flags.getLsbD 0 then 1#3 else 0#3) ∧
      (s.phase = 1#3 → t.phase =
        if s.sclOut = .released ∧ p = .high ∧ s.sdaOut = .released ∧ q = .high then 2#3 else 1#3) ∧
      (s.phase = 2#3 → s.cpf = .rise → t.phase = 2#3) ∧
      (s.phase = 2#3 → s.cpf = .fall → t.phase = if s.bc = 0#4 then 3#3 else 2#3) ∧
      (s.phase = 3#3 → s.cpf = .rise → t.phase = 3#3) ∧
      (s.phase = 3#3 → s.cpf = .fall → s.dir = .tx → t.phase = 2#3) ∧
      (s.phase = 3#3 → s.cpf = .fall → s.dir = .rx → t.phase = if s.flags.getLsbD 1 then 2#3 else 4#3) ∧
      (s.phase = 4#3 → s.cpf = .rise → t.phase = 4#3) ∧
      (s.phase = 4#3 → s.cpf = .fall → t.phase = 0#3) ∧
      (5 ≤ s.phase.toNat → t.phase = 4#3))

/-- O29. PHASE is written by ticks only, the reset input apart, and no step writes 5, 6 or 7 (10_state.md R26,
derived by the spec). -/
def Obligations.PhaseWriters : Prop :=
  ∀ s t : State, step s = .next t → t.phase ≠ s.phase →
    t.phase.toNat ≤ 4 ∧
      (nextEvent s = .rst true ∨ (s.rstHeld = false ∧ ∃ p q, nextEvent s = .tick p q))

/-- O30. Who clears a flag (20_memory.md R76, 10_state.md R32; that nothing clears RRQ is decision D17): TREQ only
ACK.FALL.TURN, FBE only ACK.FALL.NEXT, PUB only the Reporter at STOP.SDA, RRQ no tick and no host step. -/
def Obligations.FlagClearing : Prop :=
  ∀ s t : State, step s = .next t → nextEvent s ≠ .rst true →
    (s.flags.getLsbD 0 = true → t.flags.getLsbD 0 = false →
      s.phase = 3#3 ∧ s.cpf = .fall ∧ s.dir = .tx ∧ ∃ p q, nextEvent s = .tick p q) ∧
    (s.flags.getLsbD 1 = true → t.flags.getLsbD 1 = false →
      s.phase = 3#3 ∧ s.cpf = .fall ∧ s.dir = .rx ∧ ∃ p q, nextEvent s = .tick p q) ∧
    (s.flags.getLsbD 2 = true → t.flags.getLsbD 2 = true) ∧
    (s.flags.getLsbD 3 = true → t.flags.getLsbD 3 = false →
      s.phase = 4#3 ∧ s.cpf = .fall ∧ t.published ≠ none ∧ ∃ p q, nextEvent s = .tick p q)

/-- O31. Who writes SR, BC, RB and DIR in a tick (10_state.md R21, R22, R23, R28 and the table of R24). In phase Start
it is START.COND, the one operation that leaves it. -/
def Obligations.RegisterWriters : Prop :=
  ∀ (s t : State) (p q : Level), TickNext s p q → step s = .next t →
    (t.rb0 ≠ s.rb0 → s.phase = 3#3 ∧ s.cpf = .rise ∧ s.dir = .rx ∧ s.flags.getLsbD 1 = true ∧ t.rb0 = s.sr) ∧
    (t.rb1 ≠ s.rb1 → s.phase = 3#3 ∧ s.cpf = .rise ∧ s.dir = .rx ∧ s.flags.getLsbD 1 = false ∧ t.rb1 = s.sr) ∧
    (t.dir ≠ s.dir → (s.phase = 1#3 ∧ t.phase = 2#3 ∧ t.dir = .tx) ∨ (s.phase = 3#3 ∧ s.cpf = .fall ∧ t.dir = .rx)) ∧
    (t.bc ≠ s.bc → t.bc = 8#4 ∧ t.phase = 2#3 ∧ (s.phase = 1#3 ∨ s.phase = 3#3) ∨
      s.phase = 2#3 ∧ s.cpf = .rise ∧ t.bc.toNat + 1 = s.bc.toNat) ∧
    (t.sr ≠ s.sr → (s.phase = 1#3 ∧ t.phase = 2#3) ∨
      (s.phase = 2#3 ∧ s.cpf = .fall ∧ s.dir = .tx ∧ s.bc ≠ 0#4) ∨
      (s.phase = 2#3 ∧ s.cpf = .rise ∧ s.dir = .rx) ∨ (s.phase = 3#3 ∧ s.cpf = .rise ∧ s.dir = .tx))

/-- O32. Release and drive-low write the latch of their line only, and emit one command; a released line reads as the
peer leaves it, a line driven low reads low whatever the peer does (R121, R122). -/
def Obligations.LinePrimitives : Prop :=
  ∀ s : State,
    release .scl s = { s with sclOut := .released, cmds := s.cmds ++ [.release .scl] } ∧
    release .sda s = { s with sdaOut := .released, cmds := s.cmds ++ [.release .sda] } ∧
    driveLow .scl s = { s with sclOut := .drivenLow, cmds := s.cmds ++ [.driveLow .scl] } ∧
    driveLow .sda s = { s with sdaOut := .drivenLow, cmds := s.cmds ++ [.driveLow .sda] } ∧
    ∀ p : Level, senseLevel (release .scl s).sclOut p = p ∧ senseLevel (release .sda s).sdaOut p = p ∧
      senseLevel (driveLow .scl s).sclOut p = .low ∧ senseLevel (driveLow .sda s).sdaOut p = .low

/-- O33. The levels of a tick are sampled before any command of that tick takes effect, and obey the open-drain law
(R123, R124; the sampling instant is decision D4, the free peer D22). -/
def Obligations.SamplesBeforeCommands : Prop :=
  ∀ (s t : State) (p q : Level), TickNext s p q → step s = .next t →
    t.sclIn = (if s.sclOut = .released then p else .low) ∧
    t.sdaIn = (if s.sdaOut = .released then q else .low)

/-- O34. The output of a tick is at most one command per line, SCL first (R126, decision D5), and the latches after
it are what the commands say, kept where there is none (R34). -/
def Obligations.CommandOrder : Prop :=
  ∀ (s t : State) (p q : Level), TickNext s p q → step s = .next t →
    (t.cmds.map lineOf).Sublist [.scl, .sda] ∧
    t.sclOut = (if .release .scl ∈ t.cmds then .released else if .driveLow .scl ∈ t.cmds then .drivenLow
      else s.sclOut) ∧
    t.sdaOut = (if .release .sda ∈ t.cmds then .released else if .driveLow .sda ∈ t.cmds then .drivenLow
      else s.sdaOut)

/-- O35. Data validity (10_state.md R43 (f), 40_line_driver.md R128, derived by the spec): from a state of the
invariant a tick changes SDA_OUT only in an operation whose first command is `driveLow(SCL)`, or to make the START
condition, or to make the STOP condition. -/
def Obligations.DataValidity : Prop :=
  ∀ (s t : State) (p q : Level), BlockInv s → TickNext s p q → step s = .next t → t.sdaOut ≠ s.sdaOut →
    (t.sclOut = .drivenLow ∧ t.cmds.head? = some (.driveLow .scl)) ∨
    (s.phase = 1#3 ∧ t.phase = 2#3 ∧ s.sclOut = .released ∧ t.sclOut = .released ∧ t.sclIn = .high ∧
      t.cmds = [.driveLow .sda]) ∨
    (s.phase = 4#3 ∧ t.phase = 0#3 ∧ s.sclOut = .released ∧ t.sclOut = .released ∧ t.cmds = [.release .sda])

/-- O36. A transmitted byte (41_bit_engine.md R151, derived by the spec): seventeen ticks put bits 7 to 0 on SDA, one
per two ticks, each while SCL is low and then held while it is high, and complete with SDA released. -/
def Obligations.TransmittedByte : Prop :=
  ∀ (s : State) (b : Byte) (p q : Nat → Level) (rest : List EnvEvent),
    configLegal s.cfg = true → s.rstHeld = false → s.armed = true → s.phase = 2#3 → s.cpf = .fall → s.dir = .tx →
    s.bc = 8#4 → s.sr = b → s.inbox = ticks p q 17 ++ rest →
    (∀ k < 8, ∃ t u, run (2 * k + 1) s = .next t ∧ run (2 * k + 2) s = .next u ∧
      t.sclOut = .drivenLow ∧ u.sclOut = .released ∧ t.bc.toNat = 8 - k ∧ u.bc.toNat = 7 - k ∧
      t.sdaOut = (if b.getLsbD (7 - k) then .released else .drivenLow) ∧ u.sdaOut = t.sdaOut) ∧
    ∃ t, run 17 s = .next t ∧ t.phase = 3#3 ∧ t.cpf = .rise ∧ t.bc = 0#4 ∧ t.sr = 0#8 ∧
      t.sclOut = .drivenLow ∧ t.sdaOut = .released ∧ t.inbox = rest

/-- O37. A received byte (41_bit_engine.md R152, derived by the spec): sixteen ticks leave in SR the eight samples of
the rising ticks, the first in bit 7, whatever SR held before, and answer ACK or NACK by FBE (decision D10). -/
def Obligations.ReceivedByte : Prop :=
  ∀ (s : State) (p q : Nat → Level) (rest : List EnvEvent),
    configLegal s.cfg = true → s.rstHeld = false → s.armed = true → s.phase = 2#3 → s.cpf = .rise → s.dir = .rx →
    s.bc = 8#4 → s.sdaOut = .released → s.inbox = ticks p q 16 ++ rest →
    ∃ t u, run 15 s = .next t ∧ run 16 s = .next u ∧
      u.sr = byteOfLevels [q 1, q 3, q 5, q 7, q 9, q 11, q 13, q 15] ∧
      u.phase = 3#3 ∧ u.cpf = .rise ∧ u.bc = 0#4 ∧ u.sclOut = .drivenLow ∧
      u.sdaOut = (if t.flags.getLsbD 1 then .drivenLow else .released) ∧ u.inbox = rest

/-- O38. A whole transaction (42_sequencer.md R185, R320, derived by the spec): from Idle with TREQ and FBE set and
the bus quiescent at the second tick, 59 ticks with no poll among them end in Idle with both lines released, RB holding
the samples of the two bytes, the request served and `done` raised, whatever the peer does otherwise, its acknowledge
of the address byte included (R172). -/
def Obligations.WholeTransaction : Prop :=
  ∀ (s : State) (p q : Nat → Level) (rest : List EnvEvent),
    configLegal s.cfg = true → s.rstHeld = false → s.armed = true → s.phase = 0#3 → s.flags.getLsbD 0 = true →
    s.flags.getLsbD 1 = true → s.sclOut = .released → s.sdaOut = .released →
    s.tslp + 59 < s.cfg.pollInterval → p 2 = .high → q 2 = .high → s.inbox = ticks p q 59 ++ rest →
    ∃ t, run 59 s = .next t ∧
      t.rb0 = byteOfLevels [q 22, q 24, q 26, q 28, q 30, q 32, q 34, q 36] ∧
      t.rb1 = byteOfLevels [q 40, q 42, q 44, q 46, q 48, q 50, q 52, q 54] ∧
      t.done = some (t.rb0, t.rb1) ∧ t.ccv = filterValue t.rb0 t.rb1 ∧
      t.phase = 0#3 ∧ t.cpf = .rise ∧ t.bc = 0#4 ∧ t.sclOut = .released ∧ t.sdaOut = .released ∧
      t.flags.getLsbD 0 = false ∧ t.flags.getLsbD 1 = false ∧ t.tslp = s.tslp + 59 ∧ t.inbox = rest

/-- O39. The one-byte transaction (42_sequencer.md R174, R320, derived by the spec): TREQ without FBE reads one byte
into RB[1] in 41 ticks and leaves RB[0] as it was. -/
def Obligations.OneByteTransaction : Prop :=
  ∀ (s : State) (p q : Nat → Level) (rest : List EnvEvent),
    configLegal s.cfg = true → s.rstHeld = false → s.armed = true → s.phase = 0#3 → s.flags.getLsbD 0 = true →
    s.flags.getLsbD 1 = false → s.sclOut = .released → s.sdaOut = .released →
    s.tslp + 41 < s.cfg.pollInterval → p 2 = .high → q 2 = .high → s.inbox = ticks p q 41 ++ rest →
    ∃ t, run 41 s = .next t ∧ t.rb0 = s.rb0 ∧
      t.rb1 = byteOfLevels [q 22, q 24, q 26, q 28, q 30, q 32, q 34, q 36] ∧
      t.done = some (t.rb0, t.rb1) ∧ t.phase = 0#3 ∧ t.sclOut = .released ∧ t.sdaOut = .released ∧
      t.flags.getLsbD 0 = false ∧ t.inbox = rest

/-- O40. The bus stall (60_exceptions.md R252): however long the bus is not quiescent, every tick is a START.RETRY; no
`done` comes, TREQ stays, and the registers of CORE stay as they were. -/
def Obligations.StartStallsForever : Prop :=
  ∀ (n : Nat) (s : State) (p q : Nat → Level) (rest : List EnvEvent),
    configLegal s.cfg = true → s.rstHeld = false → s.armed = true → s.phase = 1#3 → s.flags.getLsbD 0 = true →
    (∀ k, p k = .low ∨ q k = .low) → s.inbox = ticks p q (n + 1) ++ rest →
    ∃ t, run (n + 1) s = .next t ∧ t.phase = 1#3 ∧ t.flags.getLsbD 0 = true ∧ t.done = none ∧
      t.cmds = [.release .scl, .release .sda] ∧ t.sclOut = .released ∧ t.sdaOut = .released ∧
      t.sr = s.sr ∧ t.bc = s.bc ∧ t.rb0 = s.rb0 ∧ t.rb1 = s.rb1 ∧ t.cpf = s.cpf ∧ t.dir = s.dir ∧ t.inbox = rest

/-- O41. Recovery from an unrecognised phase (42_sequencer.md R183, 70_reset_and_hazards.md R320; CPF <- RISE is
decision D12): three ticks reach Idle with both lines released and `done` raised once, at the third; the rest of CORE
stays as found. -/
def Obligations.RecoveryInThreeTicks : Prop :=
  ∀ (s : State) (p q : Nat → Level) (rest : List EnvEvent),
    configLegal s.cfg = true → s.rstHeld = false → s.armed = true → 5 ≤ s.phase.toNat → s.inbox = ticks p q 3 ++ rest →
    ∃ t u v, run 1 s = .next t ∧ run 2 s = .next u ∧ run 3 s = .next v ∧
      t.done = none ∧ u.done = none ∧ v.done = some (s.rb0, s.rb1) ∧ t.cmds = [] ∧
      t.sclOut = s.sclOut ∧ t.sdaOut = s.sdaOut ∧
      v.phase = 0#3 ∧ v.cpf = .rise ∧ v.sclOut = .released ∧ v.sdaOut = .released ∧
      v.sr = s.sr ∧ v.bc = s.bc ∧ v.dir = s.dir ∧ v.rb0 = s.rb0 ∧ v.rb1 = s.rb1

/-- O42. The slave's acknowledge is ignored (42_sequencer.md R172): the tick after it is recorded goes the same way
whatever SR holds. -/
def Obligations.AcknowledgeIgnored : Prop :=
  ∀ (s t : State) (p q : Level) (v : Byte), TickNext s p q → s.phase = 3#3 → s.cpf = .fall →
    step s = .next t → step { s with sr := v } = .next { t with sr := v }

/-- O43. No operation but START.RETRY, START.COND, XFER.RISE.RX and ACK.RISE.TX reads a line (10_state.md R24,
derived by the spec): elsewhere two ticks that differ in the peer's drive differ in the samples alone. -/
def Obligations.LinesReadOnlyThere : Prop :=
  ∀ (s t : State) (p q p' q' : Level) (rest : List EnvEvent),
    s.phase ≠ 1#3 → ¬(s.phase = 2#3 ∧ s.cpf = .rise ∧ s.dir = .rx) →
    ¬(s.phase = 3#3 ∧ s.cpf = .rise ∧ s.dir = .tx) →
    step { s with inbox := .tick p q :: rest } = .next t →
    ∃ t', step { s with inbox := .tick p' q' :: rest } = .next t' ∧
      t = { t' with sclIn := t.sclIn, sdaIn := t.sdaIn }

/-- O44. POLL.STEP (43_poll_scheduler.md R200; "reaches" as equality is decision D24). -/
def Obligations.PollStepEffect : Prop :=
  ∀ s : State,
    (s.tslp + 1 ≠ s.cfg.pollInterval → pollStep s = { s with tslp := s.tslp + 1 }) ∧
    (s.tslp + 1 = s.cfg.pollInterval → s.tslfr + 1 ≠ s.cfg.forcedCount →
      pollStep s = { s with tslp := 0, tslfr := s.tslfr + 1, flags := s.flags ||| 0b0011#4 }) ∧
    (s.tslp + 1 = s.cfg.pollInterval → s.tslfr + 1 = s.cfg.forcedCount →
      pollStep s = { s with tslp := 0, tslfr := 0, flags := s.flags ||| 0b1011#4 })

/-- O45. The polls of n ticks from reset (43_poll_scheduler.md R202; D24): POLL_INTERVAL_TICKS apart, and PUB set with
the FORCED_REPORT_COUNT-th. -/
def Obligations.PollPeriod : Prop :=
  ∀ (n : Nat) (s : State), configLegal s.cfg = true → s.tslp = 0 → s.tslfr = 0 →
    (pollStep^[n] s).tslp = n % s.cfg.pollInterval ∧
    (pollStep^[n] s).tslfr = n / s.cfg.pollInterval % s.cfg.forcedCount ∧
    (pollStep^[n] s).flags = s.flags ||| (if s.cfg.pollInterval ≤ n then 0b0011#4 else 0#4) |||
      (if s.cfg.pollInterval * s.cfg.forcedCount ≤ n then 0b1000#4 else 0#4)

/-- O46. The value of the filter for all pairs of bytes (44_result_filter.md R211 to R214): the sentinel out of range,
0 for noise, else 100 byte0 plus byte1 rounded to the nearest multiple of 10, ties up, from 50 to 10000. -/
def Obligations.FilterValues : Prop :=
  ∀ b0 b1 : Byte,
    (99 < b0.toNat ∨ 99 < b1.toNat → (filterValue b0 b1).toNat = 10000) ∧
    (b0.toNat = 0 ∧ b1.toNat < 50 → (filterValue b0 b1).toNat = 0) ∧
    (b0.toNat ≤ 99 → b1.toNat ≤ 99 → ¬(b0.toNat = 0 ∧ b1.toNat < 50) →
      50 ≤ (filterValue b0 b1).toNat ∧
      ∃ r, r % 10 = 0 ∧ r ≤ b1.toNat + 5 ∧ b1.toNat < r + 5 ∧ (filterValue b0 b1).toNat = 100 * b0.toNat + r) ∧
    (filterValue b0 b1).toNat ≤ 10000

/-- O47. The sentinel collision (44_result_filter.md R217 (a), 70_reset_and_hazards.md R314, derived by the spec): in
range, the value 10000 comes from byte0 = 99 with byte1 at least 95, and from nothing else. -/
def Obligations.SentinelCollision : Prop :=
  ∀ b0 b1 : Byte, b0.toNat ≤ 99 → b1.toNat ≤ 99 →
    ((filterValue b0 b1).toNat = 10000 ↔ b0.toNat = 99 ∧ 95 ≤ b1.toNat)

/-- O48. The report (44_result_filter.md R215, R216): at the `done` event CCV takes the value of the pair; if it differs
from LRV or PUB is set it is published and LRV takes it and PUB is cleared, otherwise nothing else is written. Without
`done` the Reporter does nothing (42_sequencer.md R184, step 4). -/
def Obligations.ReportDecision : Prop :=
  ∀ s : State,
    (s.done = none → reportIfDone s = s) ∧
    ∀ b0 b1 : Byte, s.done = some (b0, b1) →
      (filterValue b0 b1 ≠ s.lrv ∨ s.flags.getLsbD 3 = true →
        reportIfDone s = { s with
          ccv := filterValue b0 b1, lrv := filterValue b0 b1, flags := s.flags &&& 0b0111#4
          published := some ⟨s.cfg.channel, payload (filterValue b0 b1)⟩ }) ∧
      (filterValue b0 b1 = s.lrv → s.flags.getLsbD 3 = false →
        reportIfDone s = { s with ccv := filterValue b0 b1 })

/-- O49. Idempotence of reporting (44_result_filter.md R216): after a transaction's report, a second transaction with
the same bytes publishes again exactly if PUB has been set since. -/
def Obligations.RepeatedReportSuppressed : Prop :=
  ∀ (s u : State) (b0 b1 : Byte), s.done = some (b0, b1) → u.done = some (b0, b1) →
    u.lrv = (reportIfDone s).lrv → u.published = none →
    ((reportIfDone u).published ≠ none ↔ u.flags.getLsbD 3 = true)

/-- O50. The payload (30_encoding.md R101; the number format is decision D26): the fixed shape around the decimal
digits of the value, with no leading zero. -/
def Obligations.PayloadShape : Prop :=
  ∀ v : BitVec 16, ∃ ds : List Nat,
    (∀ d ∈ ds, d < 10) ∧ ds ≠ [] ∧ (ds.head? = some 0 → ds = [0]) ∧
    ds.foldl (fun a d => 10 * a + d) 0 = v.toNat ∧
    payload v = [Char.ofNat 123] ++ "\"columns\":[[\"Coffee\",\"".toList ++ ds.map (fun d => Char.ofNat (48 + d)) ++
      "\"]]".toList ++ [Char.ofNat 125]

/-- O51. `done` is raised by STOP.SDA and by nothing else, with (RB[0], RB[1]) (42_sequencer.md R181, R182, decision
D27). -/
def Obligations.DoneOnlyAtStop : Prop :=
  ∀ s t : State, step s = .next t →
    (t.done ≠ none ↔ s.rstHeld = false ∧ s.phase = 4#3 ∧ s.cpf = .fall ∧ ∃ p q, nextEvent s = .tick p q) ∧
    (∀ x, t.done = some x → x = (s.rb0, s.rb1))

/-- O52. The reset input (70_reset_and_hazards.md R290, R292, decision D13): asserted, it puts every register that R41
gives a value at that value and emits no command, whatever went on; the unspecified registers take the model's new
draw (log entry 6). Released, it leaves every register as it was. That rst is a level held in State, and that asserting
it leaves the samples, the parameters, the waiting moves and the arming of the tick source, is the model's choice (log
entries 7 and 14). -/
def Obligations.ResetInput : Prop :=
  ∀ (s : State) (rest : List EnvEvent), configLegal s.cfg = true →
    (s.inbox = .rst true :: rest → step s = .next { s with
      phase := 0#3, bc := 0#4, cpf := .rise, dir := .tx, flags := 0#4, sclOut := .released
      sdaOut := .released, tslp := 0, tslfr := 0, sr := Config.resetSr s.draws, rb0 := Config.resetRb0 s.draws
      rb1 := Config.resetRb1 s.draws, lrv := Config.resetLrv s.draws, ccv := Config.resetCcv s.draws
      draws := s.draws + 1, rstHeld := true, inbox := rest, cmds := [], done := none, published := none }) ∧
    (s.inbox = .rst false :: rest → step s = .next { s with
      rstHeld := false, inbox := rest, cmds := [], done := none, published := none })

/-- O53. While rst is asserted no tick is performed and no FSET is accepted (70_reset_and_hazards.md R290, decision
D13). That "connected" then still arms the tick source, its FSET lost, is the model's choice (log entry 14). -/
def Obligations.HeldInReset : Prop :=
  ∀ (s : State) (e : EnvEvent) (rest : List EnvEvent), configLegal s.cfg = true → s.rstHeld = true →
    s.inbox = e :: rest →
    ((∃ p q, e = .tick p q) ∨ (∃ m, e = .fset m) ∨ e = .connectionError ∨ e = .quiet →
      step s = .next { s with inbox := rest, cmds := [], done := none, published := none }) ∧
    (e = .connected →
      step s = .next { s with armed := true, inbox := rest, cmds := [], done := none, published := none })

/-- O54. The connection events (45_host_interface.md R232, R233): "connected" arms the tick source and sets PUB,
"connection error" sets RRQ, and neither changes anything else of the block. -/
def Obligations.ConnectionEvents : Prop :=
  ∀ (s : State) (rest : List EnvEvent), configLegal s.cfg = true → s.rstHeld = false →
    (s.inbox = .connected :: rest → step s = .next { s with
      armed := true, flags := s.flags ||| 0b1000#4, inbox := rest, cmds := [], done := none, published := none }) ∧
    (s.inbox = .connectionError :: rest → step s = .next { s with
      flags := s.flags ||| 0b0100#4, inbox := rest, cmds := [], done := none, published := none })

/-- O55. Before "connected" no tick is delivered (45_host_interface.md R232): while the source is not armed no move that
reaches the block is a tick, a tick that waits is passed over with nothing done, and a step that is not a reset performs
no operation and leaves the lines, the counters and CORE as they were, flags apart. That a tick passed over is gone is
the model's choice (log entry 4). -/
def Obligations.NoTickBeforeConnected : Prop :=
  ∀ s : State, configLegal s.cfg = true → s.armed = false →
    (∀ p q, nextEvent s ≠ .tick p q) ∧
    (∀ p q rest, s.inbox = .tick p q :: rest →
      step s = .next { s with inbox := rest, cmds := [], done := none, published := none }) ∧
    ∃ t, step s = .next t ∧ (nextEvent s = .rst true ∨
      (t.cmds = [] ∧ t.done = none ∧ t.phase = s.phase ∧ t.cpf = s.cpf ∧ t.dir = s.dir ∧ t.bc = s.bc ∧
        t.sr = s.sr ∧ t.rb0 = s.rb0 ∧ t.rb1 = s.rb1 ∧ t.sclOut = s.sclOut ∧ t.sdaOut = s.sdaOut ∧
        t.tslp = s.tslp ∧ t.tslfr = s.tslfr))

/-- O56. The parameters are constants of an instance (10_state.md R35): no step writes them. -/
def Obligations.ParametersNeverWritten : Prop :=
  ∀ s t : State, step s = .next t → t.cfg = s.cfg

/-- O57. A configuration outside its range is none of the block's (93_implementation_defined.md U11): every step is
refused by name, and only then (model's form of the refusal, log entry 9). -/
def Obligations.IllegalConfigurationRefused : Prop :=
  ∀ s : State, step s = .refused .illegalConfiguration ↔
    s.cfg.pollInterval < 60 ∨ s.cfg.forcedCount = 0

/-- O58. The address byte (30_encoding.md R91): the slave address in bits 7 to 1, and in bit 0 the write bit 0 if
ResetRequested, else the read bit 1. -/
def Obligations.AddressByte : Prop :=
  ∀ (a : BitVec 7) (f : FlagWord),
    (addressByte a f).extractLsb' 1 7 = a ∧ ((addressByte a f).getLsbD 0 = true ↔ f.getLsbD 2 = false) ∧
    (addressByte a f).toNat = 2 * a.toNat + (if f.getLsbD 2 then 0 else 1)
end

