-- ==== Sys2Proof/Laws/Decode.lean ====
section
/-! SUPPORT. What the decoder answers, by the fields of the operation select word (30_encoding.md R95, R96). -/

namespace Sys2Proof.Machine

/-- The operation map read by fields: PH, CP, DR, BCZ, FB, TQ, QT. -/
def operationOf (ph : Phase) (cp : ClockPhase) (dr : Direction) (bcz fb tq qt : Bool) : Instr :=
  if ph = Phase.idle then (if tq then .idleGo else .idleWait)
  else if ph = Phase.start then (if qt then .startCond else .startRetry)
  else if ph = Phase.addressOrData then
    match cp, dr with
    | .rise, .tx => if bcz then .reserved else .xferRiseTx
    | .rise, .rx => if bcz then .reserved else .xferRiseRx
    | .fall, .tx => if bcz then .xferFallTxend else .xferFallTxbit
    | .fall, .rx => if bcz then (if fb then .xferFallRxack else .xferFallRxnack) else .xferFallRxhold
  else if ph = Phase.ack then
    match cp, dr with
    | .rise, .tx => .ackRiseTx
    | .rise, .rx => if fb then .ackRiseRx0 else .ackRiseRx1
    | .fall, .tx => .ackFallTurn
    | .fall, .rx => if fb then .ackFallNext else .ackFallLast
  else if ph = Phase.stop then
    match cp with
    | .rise => .stopScl
    | .fall => .stopSda
  else if ph = 5#3 then .faultRecover5
  else .faultRecover67

theorem phase_cases (ph : Phase) :
    ph = 0#3 ∨ ph = 1#3 ∨ ph = 2#3 ∨ ph = 3#3 ∨ ph = 4#3 ∨ ph = 5#3 ∨ ph = 6#3 ∨ ph = 7#3 := by
  revert ph
  decide

/-- The word of seven fields. -/
def wordOf (ph : Phase) (cp : ClockPhase) (dr : Direction) (bcz fb tq qt : Bool) : Osw :=
  ph ++ clockBit cp ++ directionBit dr ++ BitVec.ofBool bcz ++ BitVec.ofBool fb ++ BitVec.ofBool tq ++
    BitVec.ofBool qt

/-- The rows of the map and its reading by fields agree on all 512 words. -/
theorem decodeOsw_wordOf (ph : Phase) (cp : ClockPhase) (dr : Direction) (bcz fb tq qt : Bool) :
    decodeOsw (wordOf ph cp dr bcz fb tq qt) = operationOf ph cp dr bcz fb tq qt := by
  cases cp <;> cases dr <;> revert ph bcz fb tq qt <;> decide

theorem osw_eq_wordOf (s : State) :
    osw s = wordOf s.phase s.cpf s.dir (bitCountZero s) (fbe s.flags) (treq s.flags) (quiet s) := rfl

/-- The operation a tick performs, from the fields of the state (R94, R95). -/
theorem decodeOsw_osw (s : State) :
    decodeOsw (osw s) =
      operationOf s.phase s.cpf s.dir (bitCountZero s) (fbe s.flags) (treq s.flags) (quiet s) :=
  decodeOsw_wordOf ..

end Sys2Proof.Machine
end

