-- ==== Sys2Proof/Laws/State.lean ====
section
/-! SUPPORT. The numbers of the phases (simp writes a phase as its number), and one lemma per field per setter, each true by rfl; no proof needs to unfold a setter. -/

namespace Sys2Proof.Phase

@[simp] theorem idle_eq : idle = 0#3 := rfl
@[simp] theorem start_eq : start = 1#3 := rfl
@[simp] theorem addressOrData_eq : addressOrData = 2#3 := rfl
@[simp] theorem ack_eq : ack = 3#3 := rfl
@[simp] theorem stop_eq : stop = 4#3 := rfl

end Sys2Proof.Phase

namespace Sys2Proof.Machine.State

section
variable (s : State) (v : Byte)
@[simp] theorem setSr_sr : (s.setSr v).sr = v := rfl
@[simp] theorem setSr_bc : (s.setSr v).bc = s.bc := rfl
@[simp] theorem setSr_rb0 : (s.setSr v).rb0 = s.rb0 := rfl
@[simp] theorem setSr_rb1 : (s.setSr v).rb1 = s.rb1 := rfl
@[simp] theorem setSr_phase : (s.setSr v).phase = s.phase := rfl
@[simp] theorem setSr_cpf : (s.setSr v).cpf = s.cpf := rfl
@[simp] theorem setSr_dir : (s.setSr v).dir = s.dir := rfl
@[simp] theorem setSr_flags : (s.setSr v).flags = s.flags := rfl
@[simp] theorem setSr_sclOut : (s.setSr v).sclOut = s.sclOut := rfl
@[simp] theorem setSr_sdaOut : (s.setSr v).sdaOut = s.sdaOut := rfl
@[simp] theorem setSr_tslp : (s.setSr v).tslp = s.tslp := rfl
@[simp] theorem setSr_tslfr : (s.setSr v).tslfr = s.tslfr := rfl
@[simp] theorem setSr_lrv : (s.setSr v).lrv = s.lrv := rfl
@[simp] theorem setSr_ccv : (s.setSr v).ccv = s.ccv := rfl
@[simp] theorem setSr_sclIn : (s.setSr v).sclIn = s.sclIn := rfl
@[simp] theorem setSr_sdaIn : (s.setSr v).sdaIn = s.sdaIn := rfl
@[simp] theorem setSr_rstHeld : (s.setSr v).rstHeld = s.rstHeld := rfl
@[simp] theorem setSr_cmds : (s.setSr v).cmds = s.cmds := rfl
@[simp] theorem setSr_done : (s.setSr v).done = s.done := rfl
@[simp] theorem setSr_published : (s.setSr v).published = s.published := rfl
@[simp] theorem setSr_cfg : (s.setSr v).cfg = s.cfg := rfl
@[simp] theorem setSr_armed : (s.setSr v).armed = s.armed := rfl
@[simp] theorem setSr_inbox : (s.setSr v).inbox = s.inbox := rfl
@[simp] theorem setSr_draws : (s.setSr v).draws = s.draws := rfl
end

section
variable (s : State) (v : BitVec 4)
@[simp] theorem setBc_sr : (s.setBc v).sr = s.sr := rfl
@[simp] theorem setBc_bc : (s.setBc v).bc = v := rfl
@[simp] theorem setBc_rb0 : (s.setBc v).rb0 = s.rb0 := rfl
@[simp] theorem setBc_rb1 : (s.setBc v).rb1 = s.rb1 := rfl
@[simp] theorem setBc_phase : (s.setBc v).phase = s.phase := rfl
@[simp] theorem setBc_cpf : (s.setBc v).cpf = s.cpf := rfl
@[simp] theorem setBc_dir : (s.setBc v).dir = s.dir := rfl
@[simp] theorem setBc_flags : (s.setBc v).flags = s.flags := rfl
@[simp] theorem setBc_sclOut : (s.setBc v).sclOut = s.sclOut := rfl
@[simp] theorem setBc_sdaOut : (s.setBc v).sdaOut = s.sdaOut := rfl
@[simp] theorem setBc_tslp : (s.setBc v).tslp = s.tslp := rfl
@[simp] theorem setBc_tslfr : (s.setBc v).tslfr = s.tslfr := rfl
@[simp] theorem setBc_lrv : (s.setBc v).lrv = s.lrv := rfl
@[simp] theorem setBc_ccv : (s.setBc v).ccv = s.ccv := rfl
@[simp] theorem setBc_sclIn : (s.setBc v).sclIn = s.sclIn := rfl
@[simp] theorem setBc_sdaIn : (s.setBc v).sdaIn = s.sdaIn := rfl
@[simp] theorem setBc_rstHeld : (s.setBc v).rstHeld = s.rstHeld := rfl
@[simp] theorem setBc_cmds : (s.setBc v).cmds = s.cmds := rfl
@[simp] theorem setBc_done : (s.setBc v).done = s.done := rfl
@[simp] theorem setBc_published : (s.setBc v).published = s.published := rfl
@[simp] theorem setBc_cfg : (s.setBc v).cfg = s.cfg := rfl
@[simp] theorem setBc_armed : (s.setBc v).armed = s.armed := rfl
@[simp] theorem setBc_inbox : (s.setBc v).inbox = s.inbox := rfl
@[simp] theorem setBc_draws : (s.setBc v).draws = s.draws := rfl
end

section
variable (s : State) (v : Byte)
@[simp] theorem setRb0_sr : (s.setRb0 v).sr = s.sr := rfl
@[simp] theorem setRb0_bc : (s.setRb0 v).bc = s.bc := rfl
@[simp] theorem setRb0_rb0 : (s.setRb0 v).rb0 = v := rfl
@[simp] theorem setRb0_rb1 : (s.setRb0 v).rb1 = s.rb1 := rfl
@[simp] theorem setRb0_phase : (s.setRb0 v).phase = s.phase := rfl
@[simp] theorem setRb0_cpf : (s.setRb0 v).cpf = s.cpf := rfl
@[simp] theorem setRb0_dir : (s.setRb0 v).dir = s.dir := rfl
@[simp] theorem setRb0_flags : (s.setRb0 v).flags = s.flags := rfl
@[simp] theorem setRb0_sclOut : (s.setRb0 v).sclOut = s.sclOut := rfl
@[simp] theorem setRb0_sdaOut : (s.setRb0 v).sdaOut = s.sdaOut := rfl
@[simp] theorem setRb0_tslp : (s.setRb0 v).tslp = s.tslp := rfl
@[simp] theorem setRb0_tslfr : (s.setRb0 v).tslfr = s.tslfr := rfl
@[simp] theorem setRb0_lrv : (s.setRb0 v).lrv = s.lrv := rfl
@[simp] theorem setRb0_ccv : (s.setRb0 v).ccv = s.ccv := rfl
@[simp] theorem setRb0_sclIn : (s.setRb0 v).sclIn = s.sclIn := rfl
@[simp] theorem setRb0_sdaIn : (s.setRb0 v).sdaIn = s.sdaIn := rfl
@[simp] theorem setRb0_rstHeld : (s.setRb0 v).rstHeld = s.rstHeld := rfl
@[simp] theorem setRb0_cmds : (s.setRb0 v).cmds = s.cmds := rfl
@[simp] theorem setRb0_done : (s.setRb0 v).done = s.done := rfl
@[simp] theorem setRb0_published : (s.setRb0 v).published = s.published := rfl
@[simp] theorem setRb0_cfg : (s.setRb0 v).cfg = s.cfg := rfl
@[simp] theorem setRb0_armed : (s.setRb0 v).armed = s.armed := rfl
@[simp] theorem setRb0_inbox : (s.setRb0 v).inbox = s.inbox := rfl
@[simp] theorem setRb0_draws : (s.setRb0 v).draws = s.draws := rfl
end

section
variable (s : State) (v : Byte)
@[simp] theorem setRb1_sr : (s.setRb1 v).sr = s.sr := rfl
@[simp] theorem setRb1_bc : (s.setRb1 v).bc = s.bc := rfl
@[simp] theorem setRb1_rb0 : (s.setRb1 v).rb0 = s.rb0 := rfl
@[simp] theorem setRb1_rb1 : (s.setRb1 v).rb1 = v := rfl
@[simp] theorem setRb1_phase : (s.setRb1 v).phase = s.phase := rfl
@[simp] theorem setRb1_cpf : (s.setRb1 v).cpf = s.cpf := rfl
@[simp] theorem setRb1_dir : (s.setRb1 v).dir = s.dir := rfl
@[simp] theorem setRb1_flags : (s.setRb1 v).flags = s.flags := rfl
@[simp] theorem setRb1_sclOut : (s.setRb1 v).sclOut = s.sclOut := rfl
@[simp] theorem setRb1_sdaOut : (s.setRb1 v).sdaOut = s.sdaOut := rfl
@[simp] theorem setRb1_tslp : (s.setRb1 v).tslp = s.tslp := rfl
@[simp] theorem setRb1_tslfr : (s.setRb1 v).tslfr = s.tslfr := rfl
@[simp] theorem setRb1_lrv : (s.setRb1 v).lrv = s.lrv := rfl
@[simp] theorem setRb1_ccv : (s.setRb1 v).ccv = s.ccv := rfl
@[simp] theorem setRb1_sclIn : (s.setRb1 v).sclIn = s.sclIn := rfl
@[simp] theorem setRb1_sdaIn : (s.setRb1 v).sdaIn = s.sdaIn := rfl
@[simp] theorem setRb1_rstHeld : (s.setRb1 v).rstHeld = s.rstHeld := rfl
@[simp] theorem setRb1_cmds : (s.setRb1 v).cmds = s.cmds := rfl
@[simp] theorem setRb1_done : (s.setRb1 v).done = s.done := rfl
@[simp] theorem setRb1_published : (s.setRb1 v).published = s.published := rfl
@[simp] theorem setRb1_cfg : (s.setRb1 v).cfg = s.cfg := rfl
@[simp] theorem setRb1_armed : (s.setRb1 v).armed = s.armed := rfl
@[simp] theorem setRb1_inbox : (s.setRb1 v).inbox = s.inbox := rfl
@[simp] theorem setRb1_draws : (s.setRb1 v).draws = s.draws := rfl
end

section
variable (s : State) (v : Phase)
@[simp] theorem setPhase_sr : (s.setPhase v).sr = s.sr := rfl
@[simp] theorem setPhase_bc : (s.setPhase v).bc = s.bc := rfl
@[simp] theorem setPhase_rb0 : (s.setPhase v).rb0 = s.rb0 := rfl
@[simp] theorem setPhase_rb1 : (s.setPhase v).rb1 = s.rb1 := rfl
@[simp] theorem setPhase_phase : (s.setPhase v).phase = v := rfl
@[simp] theorem setPhase_cpf : (s.setPhase v).cpf = s.cpf := rfl
@[simp] theorem setPhase_dir : (s.setPhase v).dir = s.dir := rfl
@[simp] theorem setPhase_flags : (s.setPhase v).flags = s.flags := rfl
@[simp] theorem setPhase_sclOut : (s.setPhase v).sclOut = s.sclOut := rfl
@[simp] theorem setPhase_sdaOut : (s.setPhase v).sdaOut = s.sdaOut := rfl
@[simp] theorem setPhase_tslp : (s.setPhase v).tslp = s.tslp := rfl
@[simp] theorem setPhase_tslfr : (s.setPhase v).tslfr = s.tslfr := rfl
@[simp] theorem setPhase_lrv : (s.setPhase v).lrv = s.lrv := rfl
@[simp] theorem setPhase_ccv : (s.setPhase v).ccv = s.ccv := rfl
@[simp] theorem setPhase_sclIn : (s.setPhase v).sclIn = s.sclIn := rfl
@[simp] theorem setPhase_sdaIn : (s.setPhase v).sdaIn = s.sdaIn := rfl
@[simp] theorem setPhase_rstHeld : (s.setPhase v).rstHeld = s.rstHeld := rfl
@[simp] theorem setPhase_cmds : (s.setPhase v).cmds = s.cmds := rfl
@[simp] theorem setPhase_done : (s.setPhase v).done = s.done := rfl
@[simp] theorem setPhase_published : (s.setPhase v).published = s.published := rfl
@[simp] theorem setPhase_cfg : (s.setPhase v).cfg = s.cfg := rfl
@[simp] theorem setPhase_armed : (s.setPhase v).armed = s.armed := rfl
@[simp] theorem setPhase_inbox : (s.setPhase v).inbox = s.inbox := rfl
@[simp] theorem setPhase_draws : (s.setPhase v).draws = s.draws := rfl
end

section
variable (s : State) (v : ClockPhase)
@[simp] theorem setCpf_sr : (s.setCpf v).sr = s.sr := rfl
@[simp] theorem setCpf_bc : (s.setCpf v).bc = s.bc := rfl
@[simp] theorem setCpf_rb0 : (s.setCpf v).rb0 = s.rb0 := rfl
@[simp] theorem setCpf_rb1 : (s.setCpf v).rb1 = s.rb1 := rfl
@[simp] theorem setCpf_phase : (s.setCpf v).phase = s.phase := rfl
@[simp] theorem setCpf_cpf : (s.setCpf v).cpf = v := rfl
@[simp] theorem setCpf_dir : (s.setCpf v).dir = s.dir := rfl
@[simp] theorem setCpf_flags : (s.setCpf v).flags = s.flags := rfl
@[simp] theorem setCpf_sclOut : (s.setCpf v).sclOut = s.sclOut := rfl
@[simp] theorem setCpf_sdaOut : (s.setCpf v).sdaOut = s.sdaOut := rfl
@[simp] theorem setCpf_tslp : (s.setCpf v).tslp = s.tslp := rfl
@[simp] theorem setCpf_tslfr : (s.setCpf v).tslfr = s.tslfr := rfl
@[simp] theorem setCpf_lrv : (s.setCpf v).lrv = s.lrv := rfl
@[simp] theorem setCpf_ccv : (s.setCpf v).ccv = s.ccv := rfl
@[simp] theorem setCpf_sclIn : (s.setCpf v).sclIn = s.sclIn := rfl
@[simp] theorem setCpf_sdaIn : (s.setCpf v).sdaIn = s.sdaIn := rfl
@[simp] theorem setCpf_rstHeld : (s.setCpf v).rstHeld = s.rstHeld := rfl
@[simp] theorem setCpf_cmds : (s.setCpf v).cmds = s.cmds := rfl
@[simp] theorem setCpf_done : (s.setCpf v).done = s.done := rfl
@[simp] theorem setCpf_published : (s.setCpf v).published = s.published := rfl
@[simp] theorem setCpf_cfg : (s.setCpf v).cfg = s.cfg := rfl
@[simp] theorem setCpf_armed : (s.setCpf v).armed = s.armed := rfl
@[simp] theorem setCpf_inbox : (s.setCpf v).inbox = s.inbox := rfl
@[simp] theorem setCpf_draws : (s.setCpf v).draws = s.draws := rfl
end

section
variable (s : State) (v : Direction)
@[simp] theorem setDir_sr : (s.setDir v).sr = s.sr := rfl
@[simp] theorem setDir_bc : (s.setDir v).bc = s.bc := rfl
@[simp] theorem setDir_rb0 : (s.setDir v).rb0 = s.rb0 := rfl
@[simp] theorem setDir_rb1 : (s.setDir v).rb1 = s.rb1 := rfl
@[simp] theorem setDir_phase : (s.setDir v).phase = s.phase := rfl
@[simp] theorem setDir_cpf : (s.setDir v).cpf = s.cpf := rfl
@[simp] theorem setDir_dir : (s.setDir v).dir = v := rfl
@[simp] theorem setDir_flags : (s.setDir v).flags = s.flags := rfl
@[simp] theorem setDir_sclOut : (s.setDir v).sclOut = s.sclOut := rfl
@[simp] theorem setDir_sdaOut : (s.setDir v).sdaOut = s.sdaOut := rfl
@[simp] theorem setDir_tslp : (s.setDir v).tslp = s.tslp := rfl
@[simp] theorem setDir_tslfr : (s.setDir v).tslfr = s.tslfr := rfl
@[simp] theorem setDir_lrv : (s.setDir v).lrv = s.lrv := rfl
@[simp] theorem setDir_ccv : (s.setDir v).ccv = s.ccv := rfl
@[simp] theorem setDir_sclIn : (s.setDir v).sclIn = s.sclIn := rfl
@[simp] theorem setDir_sdaIn : (s.setDir v).sdaIn = s.sdaIn := rfl
@[simp] theorem setDir_rstHeld : (s.setDir v).rstHeld = s.rstHeld := rfl
@[simp] theorem setDir_cmds : (s.setDir v).cmds = s.cmds := rfl
@[simp] theorem setDir_done : (s.setDir v).done = s.done := rfl
@[simp] theorem setDir_published : (s.setDir v).published = s.published := rfl
@[simp] theorem setDir_cfg : (s.setDir v).cfg = s.cfg := rfl
@[simp] theorem setDir_armed : (s.setDir v).armed = s.armed := rfl
@[simp] theorem setDir_inbox : (s.setDir v).inbox = s.inbox := rfl
@[simp] theorem setDir_draws : (s.setDir v).draws = s.draws := rfl
end

section
variable (s : State) (v : FlagWord)
@[simp] theorem setFlags_sr : (s.setFlags v).sr = s.sr := rfl
@[simp] theorem setFlags_bc : (s.setFlags v).bc = s.bc := rfl
@[simp] theorem setFlags_rb0 : (s.setFlags v).rb0 = s.rb0 := rfl
@[simp] theorem setFlags_rb1 : (s.setFlags v).rb1 = s.rb1 := rfl
@[simp] theorem setFlags_phase : (s.setFlags v).phase = s.phase := rfl
@[simp] theorem setFlags_cpf : (s.setFlags v).cpf = s.cpf := rfl
@[simp] theorem setFlags_dir : (s.setFlags v).dir = s.dir := rfl
@[simp] theorem setFlags_flags : (s.setFlags v).flags = v := rfl
@[simp] theorem setFlags_sclOut : (s.setFlags v).sclOut = s.sclOut := rfl
@[simp] theorem setFlags_sdaOut : (s.setFlags v).sdaOut = s.sdaOut := rfl
@[simp] theorem setFlags_tslp : (s.setFlags v).tslp = s.tslp := rfl
@[simp] theorem setFlags_tslfr : (s.setFlags v).tslfr = s.tslfr := rfl
@[simp] theorem setFlags_lrv : (s.setFlags v).lrv = s.lrv := rfl
@[simp] theorem setFlags_ccv : (s.setFlags v).ccv = s.ccv := rfl
@[simp] theorem setFlags_sclIn : (s.setFlags v).sclIn = s.sclIn := rfl
@[simp] theorem setFlags_sdaIn : (s.setFlags v).sdaIn = s.sdaIn := rfl
@[simp] theorem setFlags_rstHeld : (s.setFlags v).rstHeld = s.rstHeld := rfl
@[simp] theorem setFlags_cmds : (s.setFlags v).cmds = s.cmds := rfl
@[simp] theorem setFlags_done : (s.setFlags v).done = s.done := rfl
@[simp] theorem setFlags_published : (s.setFlags v).published = s.published := rfl
@[simp] theorem setFlags_cfg : (s.setFlags v).cfg = s.cfg := rfl
@[simp] theorem setFlags_armed : (s.setFlags v).armed = s.armed := rfl
@[simp] theorem setFlags_inbox : (s.setFlags v).inbox = s.inbox := rfl
@[simp] theorem setFlags_draws : (s.setFlags v).draws = s.draws := rfl
end

section
variable (s : State) (v : Option (Byte × Byte))
@[simp] theorem setDone_sr : (s.setDone v).sr = s.sr := rfl
@[simp] theorem setDone_bc : (s.setDone v).bc = s.bc := rfl
@[simp] theorem setDone_rb0 : (s.setDone v).rb0 = s.rb0 := rfl
@[simp] theorem setDone_rb1 : (s.setDone v).rb1 = s.rb1 := rfl
@[simp] theorem setDone_phase : (s.setDone v).phase = s.phase := rfl
@[simp] theorem setDone_cpf : (s.setDone v).cpf = s.cpf := rfl
@[simp] theorem setDone_dir : (s.setDone v).dir = s.dir := rfl
@[simp] theorem setDone_flags : (s.setDone v).flags = s.flags := rfl
@[simp] theorem setDone_sclOut : (s.setDone v).sclOut = s.sclOut := rfl
@[simp] theorem setDone_sdaOut : (s.setDone v).sdaOut = s.sdaOut := rfl
@[simp] theorem setDone_tslp : (s.setDone v).tslp = s.tslp := rfl
@[simp] theorem setDone_tslfr : (s.setDone v).tslfr = s.tslfr := rfl
@[simp] theorem setDone_lrv : (s.setDone v).lrv = s.lrv := rfl
@[simp] theorem setDone_ccv : (s.setDone v).ccv = s.ccv := rfl
@[simp] theorem setDone_sclIn : (s.setDone v).sclIn = s.sclIn := rfl
@[simp] theorem setDone_sdaIn : (s.setDone v).sdaIn = s.sdaIn := rfl
@[simp] theorem setDone_rstHeld : (s.setDone v).rstHeld = s.rstHeld := rfl
@[simp] theorem setDone_cmds : (s.setDone v).cmds = s.cmds := rfl
@[simp] theorem setDone_done : (s.setDone v).done = v := rfl
@[simp] theorem setDone_published : (s.setDone v).published = s.published := rfl
@[simp] theorem setDone_cfg : (s.setDone v).cfg = s.cfg := rfl
@[simp] theorem setDone_armed : (s.setDone v).armed = s.armed := rfl
@[simp] theorem setDone_inbox : (s.setDone v).inbox = s.inbox := rfl
@[simp] theorem setDone_draws : (s.setDone v).draws = s.draws := rfl
end

end Sys2Proof.Machine.State
end

