-- ==== Sys2Proof/Laws/Ops.lean ====
section
/-! SUPPORT. One lemma for each shared operation that says everything it does, and what no operation of CORE
touches. -/

namespace Sys2Proof.Machine

section driver
variable (s : State)

theorem release_scl :
    release .scl s = { s with sclOut := .released, cmds := s.cmds ++ [.release .scl] } := rfl

theorem release_sda :
    release .sda s = { s with sdaOut := .released, cmds := s.cmds ++ [.release .sda] } := rfl

theorem driveLow_scl :
    driveLow .scl s = { s with sclOut := .drivenLow, cmds := s.cmds ++ [.driveLow .scl] } := rfl

theorem driveLow_sda :
    driveLow .sda s = { s with sdaOut := .drivenLow, cmds := s.cmds ++ [.driveLow .sda] } := rfl

theorem risingHalf_eq :
    risingHalf s = { s with sclOut := .released, cpf := .fall, cmds := s.cmds ++ [.release .scl] } := rfl

theorem fallingHalf_eq :
    fallingHalf s = { s with sclOut := .drivenLow, cpf := .rise, cmds := s.cmds ++ [.driveLow .scl] } := rfl

theorem putBit_eq (b : Bool) :
    putBit b s = { s with
      sdaOut := if b then .released else .drivenLow
      cmds := s.cmds ++ [if b then .release .sda else .driveLow .sda] } := by
  cases b <;> rfl

theorem beginByte_eq :
    beginByte s = { s with bc := 8#4, phase := Phase.addressOrData } := rfl

theorem takeInvalidPhase_eq :
    takeInvalidPhase s = { s with phase := Phase.stop, cpf := .rise } := rfl

theorem raiseDone_eq :
    raiseDone s = { s with done := some (s.rb0, s.rb1) } := rfl

end driver

/-- The bit count either stops the run at 0 or counts down by one. -/
theorem countBit_next {s t : State} (h : countBit s = .next t) :
    s.bc ≠ 0#4 ∧ t = { s with bc := s.bc - 1#4 } := by
  unfold countBit at h
  split at h
  · cases h
  · rename_i hbc
    cases h
    exact ⟨hbc, rfl⟩

theorem countBit_of_ne {s : State} (h : s.bc ≠ 0#4) :
    countBit s = .next { s with bc := s.bc - 1#4 } := by
  rw [countBit, if_neg h]
  rfl

/-- Counting down does not wrap where it is allowed. -/
theorem toNat_countDown {b : BitVec 4} (h : b ≠ 0#4) : (b - 1#4).toNat = b.toNat - 1 := by
  revert b
  decide

section sampling

/-- The open-drain law: `level(L) = L_OUT AND peer_L` (40_line_driver.md R123). -/
theorem levelBit_senseLevel (out : Latch) (peer : Level) :
    levelBit (senseLevel out peer) = latchBit out &&& levelBit peer := by
  cases out <;> cases peer <;> rfl

@[simp] theorem senseLevel_released (peer : Level) : senseLevel .released peer = peer := rfl

@[simp] theorem senseLevel_drivenLow (peer : Level) : senseLevel .drivenLow peer = .low := rfl

theorem quiet_iff (s : State) : quiet s = true ↔ s.sclIn = .high ∧ s.sdaIn = .high := by
  simp [quiet]

theorem bitCountZero_iff (s : State) : bitCountZero s = true ↔ s.bc = 0#4 := by
  simp [bitCountZero]

theorem configLegal_iff (p : Params) :
    configLegal p = true ↔ 60 ≤ p.pollInterval ∧ 1 ≤ p.forcedCount := by
  simp [configLegal]

end sampling

section scheduler

/-- POLL.STEP writes TSLP, TSLFR and FLAGS only. -/
theorem pollStep_frame (s : State) :
    pollStep s =
      { s with tslp := (pollStep s).tslp, tslfr := (pollStep s).tslfr, flags := (pollStep s).flags } := by
  unfold pollStep poll
  split
  · split <;> rfl
  · rfl

/-- A step that is not a poll counts one tick. -/
theorem pollStep_count {s : State} (h : s.tslp + 1 ≠ s.cfg.pollInterval) :
    pollStep s = { s with tslp := s.tslp + 1 } := by
  rw [pollStep, if_neg h]

/-- POLL.STEP clears no flag. -/
theorem pollStep_flags (s : State) :
    (pollStep s).flags = s.flags ∨ (pollStep s).flags = setRequest s.flags ∨
      (pollStep s).flags = setPub (setRequest s.flags) := by
  unfold pollStep poll
  split
  · split <;> simp
  · simp

end scheduler

section reporter

/-- The Reporter writes CCV, LRV, FLAGS and the publish call only. -/
theorem reportIfDone_frame (s : State) :
    reportIfDone s =
      { s with
        ccv := (reportIfDone s).ccv
        lrv := (reportIfDone s).lrv
        flags := (reportIfDone s).flags
        published := (reportIfDone s).published } := by
  unfold reportIfDone
  split
  · unfold filterReport
    simp only
    split <;> rfl
  · rfl

theorem reportIfDone_none {s : State} (h : s.done = none) : reportIfDone s = s := by
  rw [reportIfDone, h]

theorem reportIfDone_some {s : State} {b0 b1 : Byte} (h : s.done = some (b0, b1)) :
    reportIfDone s = filterReport b0 b1 s := by
  rw [reportIfDone, h]

/-- The Reporter changes no flag but PUB, which it may clear. -/
theorem reportIfDone_flags (s : State) :
    (reportIfDone s).flags = s.flags ∨ (reportIfDone s).flags = clearPub s.flags := by
  unfold reportIfDone filterReport
  split
  · simp only
    split <;> simp
  · simp

end reporter

section afterwards
variable (s : State)

@[simp] theorem pollStep_sr : (pollStep s).sr = s.sr := by rw [pollStep_frame]
@[simp] theorem pollStep_bc : (pollStep s).bc = s.bc := by rw [pollStep_frame]
@[simp] theorem pollStep_rb0 : (pollStep s).rb0 = s.rb0 := by rw [pollStep_frame]
@[simp] theorem pollStep_rb1 : (pollStep s).rb1 = s.rb1 := by rw [pollStep_frame]
@[simp] theorem pollStep_phase : (pollStep s).phase = s.phase := by rw [pollStep_frame]
@[simp] theorem pollStep_cpf : (pollStep s).cpf = s.cpf := by rw [pollStep_frame]
@[simp] theorem pollStep_dir : (pollStep s).dir = s.dir := by rw [pollStep_frame]
@[simp] theorem pollStep_sclOut : (pollStep s).sclOut = s.sclOut := by rw [pollStep_frame]
@[simp] theorem pollStep_sdaOut : (pollStep s).sdaOut = s.sdaOut := by rw [pollStep_frame]
@[simp] theorem pollStep_sclIn : (pollStep s).sclIn = s.sclIn := by rw [pollStep_frame]
@[simp] theorem pollStep_sdaIn : (pollStep s).sdaIn = s.sdaIn := by rw [pollStep_frame]
@[simp] theorem pollStep_rstHeld : (pollStep s).rstHeld = s.rstHeld := by rw [pollStep_frame]
@[simp] theorem pollStep_cmds : (pollStep s).cmds = s.cmds := by rw [pollStep_frame]
@[simp] theorem pollStep_done : (pollStep s).done = s.done := by rw [pollStep_frame]
@[simp] theorem pollStep_cfg : (pollStep s).cfg = s.cfg := by rw [pollStep_frame]
@[simp] theorem pollStep_armed : (pollStep s).armed = s.armed := by rw [pollStep_frame]
@[simp] theorem pollStep_inbox : (pollStep s).inbox = s.inbox := by rw [pollStep_frame]
@[simp] theorem pollStep_draws : (pollStep s).draws = s.draws := by rw [pollStep_frame]
@[simp] theorem pollStep_lrv : (pollStep s).lrv = s.lrv := by rw [pollStep_frame]
@[simp] theorem pollStep_ccv : (pollStep s).ccv = s.ccv := by rw [pollStep_frame]
@[simp] theorem pollStep_published : (pollStep s).published = s.published := by rw [pollStep_frame]

@[simp] theorem reportIfDone_sr : (reportIfDone s).sr = s.sr := by rw [reportIfDone_frame]
@[simp] theorem reportIfDone_bc : (reportIfDone s).bc = s.bc := by rw [reportIfDone_frame]
@[simp] theorem reportIfDone_rb0 : (reportIfDone s).rb0 = s.rb0 := by rw [reportIfDone_frame]
@[simp] theorem reportIfDone_rb1 : (reportIfDone s).rb1 = s.rb1 := by rw [reportIfDone_frame]
@[simp] theorem reportIfDone_phase : (reportIfDone s).phase = s.phase := by rw [reportIfDone_frame]
@[simp] theorem reportIfDone_cpf : (reportIfDone s).cpf = s.cpf := by rw [reportIfDone_frame]
@[simp] theorem reportIfDone_dir : (reportIfDone s).dir = s.dir := by rw [reportIfDone_frame]
@[simp] theorem reportIfDone_sclOut : (reportIfDone s).sclOut = s.sclOut := by rw [reportIfDone_frame]
@[simp] theorem reportIfDone_sdaOut : (reportIfDone s).sdaOut = s.sdaOut := by rw [reportIfDone_frame]
@[simp] theorem reportIfDone_sclIn : (reportIfDone s).sclIn = s.sclIn := by rw [reportIfDone_frame]
@[simp] theorem reportIfDone_sdaIn : (reportIfDone s).sdaIn = s.sdaIn := by rw [reportIfDone_frame]
@[simp] theorem reportIfDone_rstHeld : (reportIfDone s).rstHeld = s.rstHeld := by rw [reportIfDone_frame]
@[simp] theorem reportIfDone_cmds : (reportIfDone s).cmds = s.cmds := by rw [reportIfDone_frame]
@[simp] theorem reportIfDone_done : (reportIfDone s).done = s.done := by rw [reportIfDone_frame]
@[simp] theorem reportIfDone_cfg : (reportIfDone s).cfg = s.cfg := by rw [reportIfDone_frame]
@[simp] theorem reportIfDone_armed : (reportIfDone s).armed = s.armed := by rw [reportIfDone_frame]
@[simp] theorem reportIfDone_inbox : (reportIfDone s).inbox = s.inbox := by rw [reportIfDone_frame]
@[simp] theorem reportIfDone_draws : (reportIfDone s).draws = s.draws := by rw [reportIfDone_frame]
@[simp] theorem reportIfDone_tslp : (reportIfDone s).tslp = s.tslp := by rw [reportIfDone_frame]
@[simp] theorem reportIfDone_tslfr : (reportIfDone s).tslfr = s.tslfr := by rw [reportIfDone_frame]

end afterwards

/-- What no operation touches: the parameters, the environment, the samples, the scheduler's and the Reporter's
registers and the publish call. -/
theorem exec_outside {i : Instr} {s t : State} (h : exec i s = .next t) :
    t.cfg = s.cfg ∧ t.inbox = s.inbox ∧ t.draws = s.draws ∧ t.armed = s.armed ∧ t.rstHeld = s.rstHeld ∧
      t.sclIn = s.sclIn ∧ t.sdaIn = s.sdaIn ∧ t.tslp = s.tslp ∧ t.tslfr = s.tslfr ∧ t.lrv = s.lrv ∧
      t.ccv = s.ccv ∧ t.published = s.published := by
  cases i
  case xferRiseTx =>
    obtain ⟨-, rfl⟩ := countBit_next (s := risingHalf s) h
    exact ⟨rfl, rfl, rfl, rfl, rfl, rfl, rfl, rfl, rfl, rfl, rfl, rfl⟩
  case xferRiseRx =>
    obtain ⟨-, rfl⟩ := countBit_next (s := (risingHalf s).setSr (shiftIn s.sr s.sdaIn)) h
    exact ⟨rfl, rfl, rfl, rfl, rfl, rfl, rfl, rfl, rfl, rfl, rfl, rfl⟩
  case xferFallTxbit =>
    simp only [exec, execXferFallTxbit, putBit_eq] at h
    cases h
    exact ⟨rfl, rfl, rfl, rfl, rfl, rfl, rfl, rfl, rfl, rfl, rfl, rfl⟩
  case reserved => cases h
  all_goals
    cases h
    exact ⟨rfl, rfl, rfl, rfl, rfl, rfl, rfl, rfl, rfl, rfl, rfl, rfl⟩

end Sys2Proof.Machine
end

