-- ==== Sys2Proof/Laws/Flags.lean ====
section
/-! SUPPORT. What the flag computations do to each flag, and that no step but its owner clears one. -/

namespace Sys2Proof.Machine

theorem clearTreq_bits (f : FlagWord) :
    treq (clearTreq f) = false ∧ fbe (clearTreq f) = fbe f ∧ rrq (clearTreq f) = rrq f ∧
      pub (clearTreq f) = pub f := by
  revert f
  decide

theorem clearFbe_bits (f : FlagWord) :
    treq (clearFbe f) = treq f ∧ fbe (clearFbe f) = false ∧ rrq (clearFbe f) = rrq f ∧
      pub (clearFbe f) = pub f := by
  revert f
  decide

theorem clearPub_bits (f : FlagWord) :
    treq (clearPub f) = treq f ∧ fbe (clearPub f) = fbe f ∧ rrq (clearPub f) = rrq f ∧
      pub (clearPub f) = false := by
  revert f
  decide

theorem setRequest_bits (f : FlagWord) :
    treq (setRequest f) = true ∧ fbe (setRequest f) = true ∧ rrq (setRequest f) = rrq f ∧
      pub (setRequest f) = pub f := by
  revert f
  decide

theorem setPub_bits (f : FlagWord) :
    treq (setPub f) = treq f ∧ fbe (setPub f) = fbe f ∧ rrq (setPub f) = rrq f ∧ pub (setPub f) = true := by
  revert f
  decide

/-- POLL.STEP clears no flag and leaves RRQ as it is. -/
theorem pollStep_keeps (s : State) :
    (treq s.flags = true → treq (pollStep s).flags = true) ∧
      (fbe s.flags = true → fbe (pollStep s).flags = true) ∧
      rrq (pollStep s).flags = rrq s.flags ∧
      (pub s.flags = true → pub (pollStep s).flags = true) := by
  have h1 := setRequest_bits s.flags
  have h2 := setPub_bits (setRequest s.flags)
  rcases pollStep_flags s with e | e | e <;> rw [e] <;> simp_all

/-- The Reporter leaves every flag but PUB as it is, and clears PUB only with a publish call. -/
theorem reportIfDone_keeps (s : State) :
    treq (reportIfDone s).flags = treq s.flags ∧ fbe (reportIfDone s).flags = fbe s.flags ∧
      rrq (reportIfDone s).flags = rrq s.flags ∧
      ((reportIfDone s).flags = s.flags ∨ s.done ≠ none ∧ (reportIfDone s).published ≠ none) := by
  have h := clearPub_bits s.flags
  unfold reportIfDone filterReport
  split
  · simp only
    split <;> simp_all
  · simp

end Sys2Proof.Machine
end

