-- ==== Sys2Proof/Laws/PerInstr.lean ====
section
/-! SUPPORT. A fact of every constructor of `Instr`: the encoder's word is the pattern of the constructor's own row of
the operation map, or four bits of format H (30_encoding.md R96, R97, R98). -/

namespace Sys2Proof.Laws.OwnRow

def Statement (i : Instr) : Prop :=
  (i.isHostWord = false ∧ ∃ r ∈ operationMap, r.instr = i ∧ r.pat = i.word) ∨
    (i.isHostWord = true ∧ i.word.toNat < 16)

theorem idleWait : Statement .idleWait := .inl (by decide)
theorem idleGo : Statement .idleGo := .inl (by decide)
theorem startRetry : Statement .startRetry := .inl (by decide)
theorem startCond : Statement .startCond := .inl (by decide)
theorem xferRiseTx : Statement .xferRiseTx := .inl (by decide)
theorem xferRiseRx : Statement .xferRiseRx := .inl (by decide)
theorem xferFallTxbit : Statement .xferFallTxbit := .inl (by decide)
theorem xferFallTxend : Statement .xferFallTxend := .inl (by decide)
theorem xferFallRxhold : Statement .xferFallRxhold := .inl (by decide)
theorem xferFallRxack : Statement .xferFallRxack := .inl (by decide)
theorem xferFallRxnack : Statement .xferFallRxnack := .inl (by decide)
theorem ackRiseTx : Statement .ackRiseTx := .inl (by decide)
theorem ackRiseRx0 : Statement .ackRiseRx0 := .inl (by decide)
theorem ackRiseRx1 : Statement .ackRiseRx1 := .inl (by decide)
theorem ackFallTurn : Statement .ackFallTurn := .inl (by decide)
theorem ackFallNext : Statement .ackFallNext := .inl (by decide)
theorem ackFallLast : Statement .ackFallLast := .inl (by decide)
theorem stopScl : Statement .stopScl := .inl (by decide)
theorem stopSda : Statement .stopSda := .inl (by decide)
theorem faultRecover5 : Statement .faultRecover5 := .inl (by decide)
theorem faultRecover67 : Statement .faultRecover67 := .inl (by decide)
theorem reserved : Statement .reserved := .inl (by decide)
theorem fset (m : FlagWord) : Statement (.fset m) := .inr ⟨rfl, by revert m; decide⟩

end Sys2Proof.Laws.OwnRow
end

