-- ==== Sys2Proof/Laws/Step.lean ====
section
/-! SUPPORT. What one step can do, said once: a tick runs the decoded operation and then the surrounding blocks; every
other move of the environment changes what its rule names. -/

namespace Sys2Proof.Machine

/-- The state in which a tick's operation runs: the move taken, the outputs cleared, the lines sampled. -/
def tickStart (peerScl peerSda : Level) (rest : List EnvEvent) (s : State) : State :=
  { s with
    inbox := rest
    cmds := []
    done := none
    published := none
    sclIn := senseLevel s.sclOut peerScl
    sdaIn := senseLevel s.sdaOut peerSda }

/-- A move that is no tick reaches the block as it is. -/
theorem deliverable_eq {e : EnvEvent} (armed : Bool) (h : ∀ p q, e ≠ .tick p q) : deliverable armed e = e := by
  cases e
  case tick p q => exact absurd rfl (h p q)
  all_goals rfl

/-- A tick reaches the block only once "connected" has armed its source (45_host_interface.md R232). -/
theorem armed_of_nextEvent_tick {s : State} {p q : Level} (h : nextEvent s = .tick p q) : s.armed = true := by
  unfold nextEvent deliverable at h
  split at h
  · split at h
    · assumption
    · cases h
  all_goals cases h

/-- A step with a tick next is that tick's operation and what follows it. -/
theorem step_tick {s : State} {p q : Level} {rest : List EnvEvent} (hc : configLegal s.cfg = true)
    (hr : s.rstHeld = false) (ha : s.armed = true) (hi : s.inbox = .tick p q :: rest) :
    step s = afterOperation
      (exec (operationOf s.phase s.cpf s.dir (bitCountZero s) (fbe s.flags) (treq s.flags)
        (quiet (tickStart p q rest s))) (tickStart p q rest s)) := by
  have h : step s = tickOperation (tickStart p q rest s) := by
    unfold step environmentStep
    rw [if_pos hc]
    simp only [nextEvent, pendingEvent, deliverable, ha, takeEvent, hi, performEvent, performTick, clearOutputs, hr,
      sampleLines, tickStart]
    rfl
  rw [h, tickOperation, decodeOsw_osw]
  rfl

/-- A tick answers a next state exactly where its operation does. -/
theorem afterOperation_next {r : Result} {t : State} (h : afterOperation r = .next t) :
    ∃ u, r = .next u ∧ t = pollStep (reportIfDone u) := by
  cases r with
  | next u => exact ⟨u, rfl, by cases h; rfl⟩
  | fault f => cases h
  | refused f => cases h

/-- A step that answers a next state has a block's parameters. -/
theorem step_config {s t : State} (h : step s = .next t) : configLegal s.cfg = true := by
  unfold step environmentStep at h
  split at h
  · assumption
  · cases h

/-- Every move that waits or is free takes its own effect. -/
theorem step_eq {s : State} (hc : configLegal s.cfg = true) :
    step s = performEvent (nextEvent s) (takeEvent s) := by
  unfold step environmentStep
  rw [if_pos hc]

/-- What the operation of a tick does, one case per operation: the condition that selects it and the state it leaves
(42_sequencer.md R160, 10_state.md R24). -/
inductive CoreTick (s : State) : State → Prop where
  | idleWait (hp : s.phase = 0#3) (ht : treq s.flags = false) : CoreTick s s
  | idleGo (hp : s.phase = 0#3) (ht : treq s.flags = true) : CoreTick s { s with phase := 1#3 }
  | startRetry (hp : s.phase = 1#3) (hq : ¬(s.sclIn = .high ∧ s.sdaIn = .high)) :
    CoreTick s { s with
      sclOut := .released, sdaOut := .released, cmds := s.cmds ++ [.release .scl, .release .sda] }
  | startCond (hp : s.phase = 1#3) (hq : s.sclIn = .high ∧ s.sdaIn = .high) :
    CoreTick s { s with
      sdaOut := .drivenLow, cmds := s.cmds ++ [.driveLow .sda], sr := addressByte s.cfg.slaveAddr7 s.flags
      bc := 8#4, dir := .tx, cpf := .fall, phase := 2#3 }
  | xferRiseTx (hp : s.phase = 2#3) (hc : s.cpf = .rise) (hd : s.dir = .tx) (hb : s.bc ≠ 0#4) :
    CoreTick s { s with
      sclOut := .released, cmds := s.cmds ++ [.release .scl], cpf := .fall, bc := s.bc - 1#4 }
  | xferRiseRx (hp : s.phase = 2#3) (hc : s.cpf = .rise) (hd : s.dir = .rx) (hb : s.bc ≠ 0#4) :
    CoreTick s { s with
      sclOut := .released, cmds := s.cmds ++ [.release .scl], cpf := .fall, bc := s.bc - 1#4
      sr := shiftIn s.sr s.sdaIn }
  | xferFallTxbit (hp : s.phase = 2#3) (hc : s.cpf = .fall) (hd : s.dir = .tx) (hb : s.bc ≠ 0#4) :
    CoreTick s { s with
      sclOut := .drivenLow, cpf := .rise, sdaOut := if s.sr.getLsbD 7 then .released else .drivenLow
      cmds := s.cmds ++ [.driveLow .scl, if s.sr.getLsbD 7 then .release .sda else .driveLow .sda]
      sr := shiftOut s.sr }
  | xferFallTxend (hp : s.phase = 2#3) (hc : s.cpf = .fall) (hd : s.dir = .tx) (hb : s.bc = 0#4) :
    CoreTick s { s with
      sclOut := .drivenLow, sdaOut := .released, cpf := .rise, phase := 3#3
      cmds := s.cmds ++ [.driveLow .scl, .release .sda] }
  | xferFallRxhold (hp : s.phase = 2#3) (hc : s.cpf = .fall) (hd : s.dir = .rx) (hb : s.bc ≠ 0#4) :
    CoreTick s { s with sclOut := .drivenLow, cpf := .rise, cmds := s.cmds ++ [.driveLow .scl] }
  | xferFallRxack (hp : s.phase = 2#3) (hc : s.cpf = .fall) (hd : s.dir = .rx) (hb : s.bc = 0#4)
    (hf : fbe s.flags = true) :
    CoreTick s { s with
      sclOut := .drivenLow, sdaOut := .drivenLow, cpf := .rise, phase := 3#3
      cmds := s.cmds ++ [.driveLow .scl, .driveLow .sda] }
  | xferFallRxnack (hp : s.phase = 2#3) (hc : s.cpf = .fall) (hd : s.dir = .rx) (hb : s.bc = 0#4)
    (hf : fbe s.flags = false) :
    CoreTick s { s with
      sclOut := .drivenLow, sdaOut := .released, cpf := .rise, phase := 3#3
      cmds := s.cmds ++ [.driveLow .scl, .release .sda] }
  | ackRiseTx (hp : s.phase = 3#3) (hc : s.cpf = .rise) (hd : s.dir = .tx) :
    CoreTick s { s with
      sclOut := .released, cpf := .fall, cmds := s.cmds ++ [.release .scl], sr := acknowledgeRecord s.sdaIn }
  | ackRiseRx0 (hp : s.phase = 3#3) (hc : s.cpf = .rise) (hd : s.dir = .rx) (hf : fbe s.flags = true) :
    CoreTick s { s with sclOut := .released, cpf := .fall, cmds := s.cmds ++ [.release .scl], rb0 := s.sr }
  | ackRiseRx1 (hp : s.phase = 3#3) (hc : s.cpf = .rise) (hd : s.dir = .rx) (hf : fbe s.flags = false) :
    CoreTick s { s with sclOut := .released, cpf := .fall, cmds := s.cmds ++ [.release .scl], rb1 := s.sr }
  | ackFallTurn (hp : s.phase = 3#3) (hc : s.cpf = .fall) (hd : s.dir = .tx) :
    CoreTick s { s with
      sclOut := .drivenLow, cpf := .rise, cmds := s.cmds ++ [.driveLow .scl], flags := clearTreq s.flags
      dir := .rx, bc := 8#4, phase := 2#3 }
  | ackFallNext (hp : s.phase = 3#3) (hc : s.cpf = .fall) (hd : s.dir = .rx) (hf : fbe s.flags = true) :
    CoreTick s { s with
      sclOut := .drivenLow, sdaOut := .released, cpf := .rise, cmds := s.cmds ++ [.driveLow .scl, .release .sda]
      flags := clearFbe s.flags, bc := 8#4, phase := 2#3 }
  | ackFallLast (hp : s.phase = 3#3) (hc : s.cpf = .fall) (hd : s.dir = .rx) (hf : fbe s.flags = false) :
    CoreTick s { s with
      sclOut := .drivenLow, sdaOut := .drivenLow, cpf := .rise, phase := 4#3
      cmds := s.cmds ++ [.driveLow .scl, .driveLow .sda] }
  | stopScl (hp : s.phase = 4#3) (hc : s.cpf = .rise) :
    CoreTick s { s with sclOut := .released, cpf := .fall, cmds := s.cmds ++ [.release .scl] }
  | stopSda (hp : s.phase = 4#3) (hc : s.cpf = .fall) :
    CoreTick s { s with
      sdaOut := .released, cpf := .rise, phase := 0#3, done := some (s.rb0, s.rb1)
      cmds := s.cmds ++ [.release .sda] }
  | faultRecover (hp : 5 ≤ s.phase.toNat) : CoreTick s { s with phase := 4#3, cpf := .rise }

/-- Two commands given one after the other are appended in order. -/
theorem append_two {α : Type} (l : List α) (a b : α) : l ++ [a] ++ [b] = l ++ [a, b] := by
  simp

/-- The engine's operations, selected in phase AddressOrData with BC not 0 at a rising tick. -/
theorem coreTick_engine {s : State} (hp : s.phase = 2#3) (hn : ¬AtReserved s) :
    ∃ u, exec (decodeOsw (osw s)) s = .next u ∧ CoreTick s u := by
  rw [decodeOsw_osw, hp]
  have hb := bitCountZero_iff s
  rcases hc : s.cpf with _ | _ <;> rcases hd : s.dir with _ | _
  · have h0 : s.bc ≠ 0#4 := fun h => hn ⟨hp, hc, h⟩
    refine ⟨_, ?_, .xferRiseTx hp hc hd h0⟩
    rw [Bool.eq_false_iff.mpr (mt hb.mp h0)]
    exact countBit_of_ne (s := risingHalf s) h0
  · have h0 : s.bc ≠ 0#4 := fun h => hn ⟨hp, hc, h⟩
    refine ⟨_, ?_, .xferRiseRx hp hc hd h0⟩
    rw [Bool.eq_false_iff.mpr (mt hb.mp h0)]
    exact countBit_of_ne (s := (risingHalf s).setSr (shiftIn s.sr s.sdaIn)) h0
  · by_cases h0 : s.bc = 0#4
    · rw [hb.mpr h0]
      refine ⟨_, ?_, .xferFallTxend hp hc hd h0⟩
      exact congrArg Host.Outcome.next (by rw [← append_two]; rfl)
    · rw [Bool.eq_false_iff.mpr (mt hb.mp h0)]
      refine ⟨_, ?_, .xferFallTxbit hp hc hd h0⟩
      exact congrArg Host.Outcome.next (by rw [putBit_eq, ← append_two]; rfl)
  · by_cases h0 : s.bc = 0#4
    · rw [hb.mpr h0]
      rcases hf : fbe s.flags with _ | _
      · refine ⟨_, ?_, .xferFallRxnack hp hc hd h0 hf⟩
        exact congrArg Host.Outcome.next (by rw [← append_two]; rfl)
      · refine ⟨_, ?_, .xferFallRxack hp hc hd h0 hf⟩
        exact congrArg Host.Outcome.next (by rw [← append_two]; rfl)
    · rw [Bool.eq_false_iff.mpr (mt hb.mp h0)]
      exact ⟨_, rfl, .xferFallRxhold hp hc hd h0⟩

/-- The operations of phase Ack. -/
theorem coreTick_ack {s : State} (hp : s.phase = 3#3) :
    ∃ u, exec (decodeOsw (osw s)) s = .next u ∧ CoreTick s u := by
  rw [decodeOsw_osw, hp]
  rcases hc : s.cpf with _ | _ <;> rcases hd : s.dir with _ | _
  · exact ⟨_, rfl, .ackRiseTx hp hc hd⟩
  · rcases hf : fbe s.flags with _ | _
    · exact ⟨_, rfl, .ackRiseRx1 hp hc hd hf⟩
    · exact ⟨_, rfl, .ackRiseRx0 hp hc hd hf⟩
  · exact ⟨_, rfl, .ackFallTurn hp hc hd⟩
  · rcases hf : fbe s.flags with _ | _
    · refine ⟨_, ?_, .ackFallLast hp hc hd hf⟩
      exact congrArg Host.Outcome.next (by rw [← append_two]; rfl)
    · refine ⟨_, ?_, .ackFallNext hp hc hd hf⟩
      exact congrArg Host.Outcome.next (by rw [← append_two]; rfl)

/-- Every tick but one at the reserved situation performs one of the cases of `CoreTick`. -/
theorem coreTick_of_not_reserved {s : State} (hn : ¬AtReserved s) :
    ∃ u, exec (decodeOsw (osw s)) s = .next u ∧ CoreTick s u := by
  rcases phase_cases s.phase with hp | hp | hp | hp | hp | hp | hp | hp
  · rw [decodeOsw_osw, hp]
    rcases ht : treq s.flags with _ | _
    · exact ⟨_, rfl, .idleWait hp ht⟩
    · exact ⟨_, rfl, .idleGo hp ht⟩
  · rw [decodeOsw_osw, hp]
    have hq := quiet_iff s
    rcases h : quiet s with _ | _
    · refine ⟨_, ?_, .startRetry hp (fun c => by rw [hq.mpr c] at h; cases h)⟩
      exact congrArg Host.Outcome.next (by rw [← append_two]; rfl)
    · exact ⟨_, rfl, .startCond hp (hq.mp h)⟩
  · exact coreTick_engine hp hn
  · exact coreTick_ack hp
  · rw [decodeOsw_osw, hp]
    rcases hc : s.cpf with _ | _
    · exact ⟨_, rfl, .stopScl hp hc⟩
    · exact ⟨_, rfl, .stopSda hp hc⟩
  all_goals
    rw [decodeOsw_osw, hp]
    exact ⟨_, rfl, .faultRecover (by rw [hp]; decide)⟩

/-- The reserved situation stops the run. -/
theorem exec_at_reserved {s : State} (h : AtReserved s) :
    exec (decodeOsw (osw s)) s = .fault .reservedOperation := by
  obtain ⟨hp, hc, hb⟩ := h
  rw [decodeOsw_osw, hp, hc, (bitCountZero_iff s).mpr hb]
  cases s.dir <;> rfl

/-- What a step with a tick next can do: the reserved situation faults, and every other answers the case of
`CoreTick` followed by the Reporter and the Poll Scheduler. -/
theorem step_tick_cases {s : State} {p q : Level} {rest : List EnvEvent} (hc : configLegal s.cfg = true)
    (hr : s.rstHeld = false) (ha : s.armed = true) (hi : s.inbox = .tick p q :: rest) :
    (AtReserved s ∧ step s = .fault .reservedOperation) ∨
      (¬AtReserved s ∧ ∃ u, CoreTick (tickStart p q rest s) u ∧ step s = .next (pollStep (reportIfDone u))) := by
  have hs := step_tick hc hr ha hi
  have hd : operationOf s.phase s.cpf s.dir (bitCountZero s) (fbe s.flags) (treq s.flags)
      (quiet (tickStart p q rest s)) = decodeOsw (osw (tickStart p q rest s)) :=
    (decodeOsw_osw (tickStart p q rest s)).symm
  rw [hd] at hs
  by_cases hn : AtReserved s
  · exact .inl ⟨hn, by rw [hs, exec_at_reserved (s := tickStart p q rest s) hn]; rfl⟩
  · obtain ⟨u, hu, hcore⟩ := coreTick_of_not_reserved (s := tickStart p q rest s) hn
    exact .inr ⟨hn, u, hcore, by rw [hs, hu]; rfl⟩

/-- What a step with any other move can do, while it answers a next state. -/
theorem performEvent_next {e : EnvEvent} {s t : State} (h : performEvent e s = .next t) :
    (∃ p q, e = .tick p q ∧
      (s.rstHeld = true ∧ t = clearOutputs s ∨
        s.rstHeld = false ∧ ∃ u, CoreTick (sampleLines p q (clearOutputs s)) u ∧ t = pollStep (reportIfDone u))) ∨
    (∃ m, (e = .fset m ∨ e = .connectionError ∧ m = 0b0100#4) ∧
      t = if s.rstHeld then clearOutputs s else { clearOutputs s with flags := s.flags ||| m }) ∨
    (e = .connected ∧
      t = if s.rstHeld then { clearOutputs s with armed := true }
        else { clearOutputs s with armed := true, flags := s.flags ||| 0b1000#4 }) ∨
    (e = .rst true ∧ t = resetBlock (clearOutputs s)) ∨
    (e = .rst false ∧ t = { clearOutputs s with rstHeld := false }) ∨
    (e = .quiet ∧ t = clearOutputs s) := by
  match e with
  | .tick p q =>
    refine .inl ⟨p, q, rfl, ?_⟩
    simp only [performEvent, performTick] at h
    have hk : (clearOutputs s).rstHeld = s.rstHeld := rfl
    rw [hk] at h
    rcases hr : s.rstHeld with _ | _
    · right
      rw [hr] at h
      refine ⟨rfl, ?_⟩
      change tickOperation _ = _ at h
      by_cases hn : AtReserved (sampleLines p q (clearOutputs s))
      · rw [tickOperation, exec_at_reserved hn] at h
        cases h
      · obtain ⟨u, hu, hcore⟩ := coreTick_of_not_reserved hn
        rw [tickOperation, hu] at h
        cases h
        exact ⟨u, hcore, rfl⟩
    · left
      rw [hr] at h
      cases h
      exact ⟨rfl, rfl⟩
  | .fset m =>
    refine .inr (.inl ⟨m, .inl rfl, ?_⟩)
    simp only [performEvent, hostStep] at h
    change (if s.rstHeld = true then _ else _) = _ at h
    split at h <;> cases h <;> simp_all
    rfl
  | .connected =>
    refine .inr (.inr (.inl ⟨rfl, ?_⟩))
    simp only [performEvent, hostStep] at h
    change (if s.rstHeld = true then _ else _) = _ at h
    split at h <;> cases h <;> simp_all
    rfl
  | .connectionError =>
    refine .inr (.inl ⟨_, .inr ⟨rfl, rfl⟩, ?_⟩)
    simp only [performEvent, hostStep] at h
    change (if s.rstHeld = true then _ else _) = _ at h
    split at h <;> cases h <;> simp_all
    rfl
  | .rst true =>
    cases h
    exact .inr (.inr (.inr (.inl ⟨rfl, rfl⟩)))
  | .rst false =>
    cases h
    exact .inr (.inr (.inr (.inr (.inl ⟨rfl, rfl⟩))))
  | .quiet =>
    cases h
    exact .inr (.inr (.inr (.inr (.inr ⟨rfl, rfl⟩))))

/-- Taking a move changes the inbox and the draw counter only. -/
theorem takeEvent_eq (s : State) : ∃ l n, takeEvent s = { s with inbox := l, draws := n } := by
  unfold takeEvent
  split <;> exact ⟨_, _, rfl⟩

/-- The state after a move that does nothing to the block: the move taken, the outputs cleared. -/
def quietAfter (l : List EnvEvent) (n : Nat) (s : State) : State :=
  { s with inbox := l, draws := n, cmds := [], done := none, published := none }

/-- What one step can do, whatever its move: with the move taken (inbox `l`, draw counter `n`), a tick performs a case
of `CoreTick` and the surrounding blocks, and every other move changes what its rule names. -/
theorem step_next_cases {s t : State} (h : step s = .next t) : ∃ l n,
    (∃ p q, nextEvent s = .tick p q ∧
      (s.rstHeld = true ∧ t = quietAfter l n s ∨
        s.rstHeld = false ∧ ∃ u, CoreTick { tickStart p q l s with draws := n } u ∧
          t = pollStep (reportIfDone u))) ∨
    (∃ m, (nextEvent s = .fset m ∨ nextEvent s = .connectionError ∧ m = 0b0100#4) ∧
      (t = quietAfter l n s ∨ t = { quietAfter l n s with flags := s.flags ||| m })) ∨
    (nextEvent s = .connected ∧
      (t = { quietAfter l n s with armed := true } ∨
        t = { quietAfter l n s with armed := true, flags := s.flags ||| 0b1000#4 })) ∨
    (nextEvent s = .rst true ∧ t = resetBlock (quietAfter l n s)) ∨
    (nextEvent s = .rst false ∧ t = { quietAfter l n s with rstHeld := false }) ∨
    (nextEvent s = .quiet ∧ t = quietAfter l n s) := by
  rw [step_eq (step_config h)] at h
  obtain ⟨l, n, ht⟩ := takeEvent_eq s
  rw [ht] at h
  refine ⟨l, n, ?_⟩
  rcases performEvent_next h with ⟨p, q, he, hc⟩ | ⟨m, he, hc⟩ | ⟨he, hc⟩ | hc | hc | hc
  · exact .inl ⟨p, q, he, hc⟩
  · refine .inr (.inl ⟨m, he, ?_⟩)
    split at hc
    · exact .inl hc
    · exact .inr hc
  · refine .inr (.inr (.inl ⟨he, ?_⟩))
    split at hc
    · exact .inl hc
    · exact .inr hc
  · exact .inr (.inr (.inr (.inl hc)))
  · exact .inr (.inr (.inr (.inr (.inl hc))))
  · exact .inr (.inr (.inr (.inr (.inr hc))))

/-- A staged word of the operation map is assembled by the next tick, whatever the state was (log entry 15). -/
theorem osw_stageOsw (w : Osw) (s : State) (rest : List EnvEvent) :
    osw (tickStart (stagePeer w) (stagePeer w) rest (stageOsw w s)) = w := by
  have key : ∀ (w : Osw) (bc : BitVec 4) (f : FlagWord) (o1 o2 : Latch),
      wordOf (w.extractLsb' 6 3) (if w.getLsbD 5 then .fall else .rise) (if w.getLsbD 4 then .rx else .tx)
        (decide (stageCount w bc = 0#4)) (fbe (stageFlags w f)) (treq (stageFlags w f))
        (decide (senseLevel (stageLatch w o1) (stagePeer w) = .high) &&
          decide (senseLevel (stageLatch w o2) (stagePeer w) = .high)) = w := by
    intro w bc f o1 o2
    have hcount : decide (stageCount w bc = 0#4) = w.getLsbD 3 := by
      unfold stageCount
      cases w.getLsbD 3 <;> simp [Config.bitsPerByte]
      split <;> simp_all
    have hfbe : fbe (stageFlags w f) = w.getLsbD 2 := by
      unfold fbe stageFlags
      generalize w.getLsbD 2 = a
      generalize w.getLsbD 1 = b
      revert f a b
      decide
    have htreq : treq (stageFlags w f) = w.getLsbD 1 := by
      clear hfbe
      unfold treq stageFlags
      generalize w.getLsbD 2 = a
      generalize w.getLsbD 1 = b
      revert f a b
      decide
    have hquiet : (decide (senseLevel (stageLatch w o1) (stagePeer w) = .high) &&
        decide (senseLevel (stageLatch w o2) (stagePeer w) = .high)) = w.getLsbD 0 := by
      unfold stageLatch stagePeer
      cases w.getLsbD 0 <;> cases o1 <;> cases o2 <;> rfl
    rw [hcount, hfbe, htreq, hquiet]
    clear hcount hfbe htreq hquiet
    revert w
    decide
  exact key w s.bc s.flags s.sclOut s.sdaOut

/-- The very next step after staging a format T word performs the operation that word selects. -/
theorem step_withFetchWord_osw {s : State} (hc : configLegal s.cfg = true) (nbits w : Nat) (hn : 8 < nbits) :
    step (s.withFetchWord nbits w) =
      afterOperation (exec (decodeOsw (BitVec.ofNat 9 w))
        (tickStart (stagePeer (BitVec.ofNat 9 w)) (stagePeer (BitVec.ofNat 9 w)) s.inbox
          (stageOsw (BitVec.ofNat 9 w) s))) := by
  have hs : s.withFetchWord nbits w = stageOsw (BitVec.ofNat 9 w) s := by
    rw [State.withFetchWord, stageWord, if_neg (by omega)]
  rw [hs, step_tick (s := stageOsw (BitVec.ofNat 9 w) s) hc rfl rfl rfl]
  have h := decodeOsw_osw (tickStart (stagePeer (BitVec.ofNat 9 w)) (stagePeer (BitVec.ofNat 9 w)) s.inbox
    (stageOsw (BitVec.ofNat 9 w) s))
  rw [osw_stageOsw] at h
  rw [h]
  rfl

/-- The very next step after staging a format H word performs FSET. -/
theorem step_withFetchWord_flags {s : State} (hc : configLegal s.cfg = true) (nbits w : Nat) (hn : nbits ≤ 8) :
    step (s.withFetchWord nbits w) =
      exec (.fset (BitVec.ofNat 4 w)) { clearOutputs s with rstHeld := false } := by
  have hs : s.withFetchWord nbits w = stageFlagWord (BitVec.ofNat 4 w) s := by
    rw [State.withFetchWord, stageWord, if_pos hn]
  rw [hs, step_eq (s := stageFlagWord (BitVec.ofNat 4 w) s) hc]
  rfl

end Sys2Proof.Machine
end

