-- ==== Sys2Proof/Laws/Run.lean ====
section
/-! SUPPORT. Runs of several steps, one step at a time. -/

namespace Sys2Proof.Machine

theorem run_zero (s : State) : run 0 s = .next s := rfl

/-- A run takes its first step and goes on from there. -/
theorem run_succ {s t : State} (n : Nat) (h : step s = .next t) : run (n + 1) s = run n t := by
  have hs : Sys2Proof.core.step s = .next t := h
  have e := Host.Core.run.eq_def Sys2Proof.core (n + 1) s
  simp only [hs] at e
  exact e

/-- A run whose first step stops has stopped. -/
theorem run_succ_stop {s : State} (n : Nat) (h : ∀ t, step s ≠ .next t) (t : State) :
    run (n + 1) s ≠ .next t := by
  have hs : ∀ t, Sys2Proof.core.step s ≠ .next t := h
  intro hr
  have e := (Host.Core.run.eq_def Sys2Proof.core (n + 1) s).symm.trans hr
  cases c : Sys2Proof.core.step s with
  | next u => exact hs _ c
  | fault r =>
    simp only [c] at e
    cases e
  | refused r =>
    simp only [c] at e
    cases e

/-- Two runs one after the other are one run. -/
theorem run_add {s t : State} (m n : Nat) (h : run m s = .next t) : run (m + n) s = run n t := by
  induction m generalizing s with
  | zero =>
    cases h
    rw [Nat.zero_add]
  | succ m ih =>
    by_cases hn : ∃ u, step s = .next u
    · obtain ⟨u, hs⟩ := hn
      rw [run_succ m hs] at h
      rw [Nat.add_right_comm, run_succ (m + n) hs, ih h]
    · exact absurd h (run_succ_stop m (fun t ht => hn ⟨t, ht⟩) t)

/-- The first of several ticks, and the rest with the peer's levels counted from there. -/
theorem ticks_succ (peerScl peerSda : Nat → Level) (n : Nat) :
    ticks peerScl peerSda (n + 1) =
      .tick (peerScl 1) (peerSda 1) :: ticks (fun k => peerScl (k + 1)) (fun k => peerSda (k + 1)) n := by
  simp [ticks, List.range_succ_eq_map, Function.comp_def]

/-- A tick that is not at the reserved situation answers its case of `CoreTick` and what follows it. -/
theorem step_tick_next {s : State} {p q : Level} {rest : List EnvEvent} (hc : configLegal s.cfg = true)
    (hr : s.rstHeld = false) (ha : s.armed = true) (hi : s.inbox = .tick p q :: rest) (hn : ¬AtReserved s) :
    ∃ u, CoreTick (tickStart p q rest s) u ∧ step s = .next (pollStep (reportIfDone u)) := by
  rcases step_tick_cases hc hr ha hi with h | h
  · exact absurd h.1 hn
  · exact h.2

end Sys2Proof.Machine
end

