-- ==== Sys2Proof/Tests/Slice0.lean ====
section
/-! SUPPORT. Tests of single steps against 95_test_vectors.md (the D, E, F, G, H, L, Q and T vectors; every expected
value is that file's), the refusal of the ill-formed term, and a witness for the hypotheses of every obligation. -/

namespace Sys2Proof.Tests

open Sys2Proof Sys2Proof.Machine

/-- An idle machine, the tick source armed, with every field written out: address 0x29, poll interval 5000, forced count 60. -/
def bench : State :=
  { sr := 0x00#8, bc := 0#4, rb0 := 0xAA#8, rb1 := 0xBB#8, phase := 0#3, cpf := .rise, dir := .tx, flags := 0#4
    sclOut := .released, sdaOut := .released, tslp := 0, tslfr := 0, lrv := 0#16, ccv := 0#16
    sclIn := .high, sdaIn := .high, rstHeld := false, cmds := [], done := none, published := none
    cfg := { slaveAddr7 := 0x29#7, tTick := 1, pollInterval := 5000, forcedCount := 60, channel := ['c'] }
    armed := true, inbox := [], draws := 1 }

/-- The bench in a phase. -/
def place (ph : Phase) (cp : ClockPhase) (dr : Direction) (bc : BitVec 4) (f : FlagWord) : State :=
  { bench with phase := ph, cpf := cp, dir := dr, bc := bc, flags := f }

/-- The same with the levels sampled, `in` of the vectors. -/
def sampled (scl sda : Level) (s : State) : State :=
  { s with sclIn := scl, sdaIn := sda }

/-- The same with the latches. -/
def latched (scl sda : Latch) (s : State) : State :=
  { s with sclOut := scl, sdaOut := sda }

/-- The same with a tick, or another move, next. -/
def facing (e : EnvEvent) (s : State) : State :=
  { s with inbox := [e] }

/-- The next state, if there is one. -/
def observe (r : Result) : Option State :=
  match r with
  | .next s => some s
  | .fault _ => none
  | .refused _ => none

/-- The fault, if there is one. -/
def faultOf (r : Result) : Option Fault :=
  match r with
  | .next _ => none
  | .fault f => some f
  | .refused _ => none

theorem of_observe {r : Result} (P : State → Prop) [DecidablePred P]
    (h : (observe r).any (fun t => decide (P t)) = true) : ∃ t, r = .next t ∧ P t := by
  cases r with
  | next t => exact ⟨t, rfl, by simpa [observe] using h⟩
  | fault f => cases h
  | refused f => cases h

theorem of_faultOf {r : Result} {f : Fault} (h : faultOf r = some f) : r = .fault f := by
  cases r with
  | next t => cases h
  | fault g => exact congrArg Host.Outcome.fault (Option.some.inj h)
  | refused g => cases h

/-! ## Well-formedness -/

theorem test_reserved_is_ill_formed : Instr.wellFormed .reserved = false := by decide

theorem test_fset_is_well_formed : (∀ m : FlagWord, Instr.wellFormed (.fset m) = true) := by decide

/-! ## Decoding: vectors D1 to D35, and the bytes of format H -/

/-- A vector: the state at the start of a tick assembles the word, and the word decodes to the operation. -/
def Decodes (s : State) (scl sda : Level) (w : Osw) (i : Instr) : Prop :=
  osw (sampled scl sda s) = w ∧ decodeOsw w = i ∧
    decodeTableWord 16 w.toNat = some i

theorem test_decode_idle_start :
    Decodes (place 0#3 .rise .tx 0#4 0b0000#4) .high .high 0x009#9 .idleWait ∧
    Decodes (place 0#3 .fall .rx 0#4 0b0010#4) .low .low 0x03C#9 .idleWait ∧
    Decodes (place 0#3 .rise .tx 0#4 0b0011#4) .high .high 0x00F#9 .idleGo ∧
    Decodes (place 0#3 .rise .tx 0#4 0b0001#4) .low .high 0x00A#9 .idleGo ∧
    Decodes (place 1#3 .rise .tx 0#4 0b0011#4) .high .low 0x04E#9 .startRetry ∧
    Decodes (place 1#3 .rise .tx 0#4 0b0011#4) .low .high 0x04E#9 .startRetry ∧
    Decodes (place 1#3 .rise .tx 0#4 0b0011#4) .low .low 0x04E#9 .startRetry ∧
    Decodes (place 1#3 .rise .tx 0#4 0b0011#4) .high .high 0x04F#9 .startCond ∧
    Decodes (place 1#3 .fall .rx 5#4 0b0000#4) .high .high 0x071#9 .startCond := by
  unfold Decodes
  decide

theorem test_decode_engine_tx :
    Decodes (place 2#3 .rise .tx 8#4 0b0011#4) .low .low 0x086#9 .xferRiseTx ∧
    Decodes (place 2#3 .rise .tx 1#4 0b0011#4) .low .high 0x086#9 .xferRiseTx ∧
    Decodes (place 2#3 .fall .tx 8#4 0b0011#4) .high .low 0x0A6#9 .xferFallTxbit ∧
    Decodes (place 2#3 .fall .tx 1#4 0b0011#4) .high .high 0x0A7#9 .xferFallTxbit ∧
    Decodes (place 2#3 .fall .tx 0#4 0b0011#4) .high .high 0x0AF#9 .xferFallTxend ∧
    Decodes (place 2#3 .rise .tx 0#4 0b0011#4) .low .low 0x08E#9 .reserved := by
  unfold Decodes
  decide

theorem test_decode_engine_rx :
    Decodes (place 2#3 .rise .rx 8#4 0b0010#4) .low .high 0x094#9 .xferRiseRx ∧
    Decodes (place 2#3 .rise .rx 1#4 0b0000#4) .low .low 0x090#9 .xferRiseRx ∧
    Decodes (place 2#3 .fall .rx 7#4 0b0010#4) .high .low 0x0B4#9 .xferFallRxhold ∧
    Decodes (place 2#3 .fall .rx 0#4 0b0010#4) .high .high 0x0BD#9 .xferFallRxack ∧
    Decodes (place 2#3 .fall .rx 0#4 0b0000#4) .high .high 0x0B9#9 .xferFallRxnack ∧
    Decodes (place 2#3 .rise .rx 0#4 0b0000#4) .low .high 0x098#9 .reserved := by
  unfold Decodes
  decide

theorem test_decode_ack :
    Decodes (place 3#3 .rise .tx 0#4 0b0011#4) .low .low 0x0CE#9 .ackRiseTx ∧
    Decodes (place 3#3 .rise .rx 0#4 0b0010#4) .low .low 0x0DC#9 .ackRiseRx0 ∧
    Decodes (place 3#3 .rise .rx 0#4 0b0000#4) .low .high 0x0D8#9 .ackRiseRx1 ∧
    Decodes (place 3#3 .fall .tx 0#4 0b0011#4) .high .low 0x0EE#9 .ackFallTurn ∧
    Decodes (place 3#3 .fall .rx 0#4 0b0010#4) .high .low 0x0FC#9 .ackFallNext ∧
    Decodes (place 3#3 .fall .rx 0#4 0b0000#4) .high .high 0x0F9#9 .ackFallLast ∧
    Decodes (place 3#3 .fall .rx 3#4 0b0000#4) .high .high 0x0F1#9 .ackFallLast := by
  unfold Decodes
  decide

theorem test_decode_stop_fault :
    Decodes (place 4#3 .rise .rx 0#4 0b0000#4) .low .low 0x118#9 .stopScl ∧
    Decodes (place 4#3 .fall .rx 0#4 0b0000#4) .high .low 0x138#9 .stopSda ∧
    Decodes (place 4#3 .fall .tx 5#4 0b0011#4) .high .high 0x127#9 .stopSda ∧
    Decodes (place 5#3 .rise .tx 0#4 0b0000#4) .high .high 0x149#9 .faultRecover5 ∧
    Decodes (place 6#3 .fall .rx 3#4 0b0011#4) .low .low 0x1B6#9 .faultRecover67 ∧
    Decodes (place 7#3 .fall .rx 0#4 0b0011#4) .high .high 0x1FF#9 .faultRecover67 := by
  unfold Decodes
  decide

theorem test_decode_fset :
    decodeTableWord 8 0b0011 = some (.fset 0b0011#4) ∧ decodeTableWord 8 0b1111 = some (.fset 0b1111#4) := by
  decide

theorem test_decode_refuses_wide_words :
    decodeTableWord 16 0x200 = none ∧ decodeTableWord 8 0x10 = none ∧ decodeTableWord 16 0x10000 = none := by
  decide

theorem test_decode_errors :
    decodeBytes [] = .error .noSuchFormat ∧ decodeBytes [0x00#8, 0x02#8] = .error .oswTooWide ∧
      decodeBytes [0x10#8] = .error .flagWordTooWide := by
  decide

/-! ## The line driver: vectors L1 to L8 -/

theorem test_levels :
    senseLevel (release .scl (latched .released .released bench)).sclOut .low = .low ∧
    senseLevel (driveLow .scl (latched .released .released bench)).sclOut .high = .low ∧
    senseLevel (release .sda (latched .drivenLow .drivenLow bench)).sdaOut .high = .high ∧
    senseLevel (driveLow .sda (latched .drivenLow .drivenLow bench)).sdaOut .high = .low := by
  decide

/-! ## The address byte: vectors E1 to E6 -/

theorem test_address_byte :
    addressByte 0x29#7 0b0000#4 = 0x53#8 ∧ addressByte 0x29#7 0b0100#4 = 0x52#8 ∧
    addressByte 0x59#7 0b0100#4 = 0xB2#8 ∧ addressByte 0x7F#7 0b0000#4 = 0xFF#8 ∧
    addressByte 0x00#7 0b0100#4 = 0x00#8 ∧ addressByte 0x00#7 0b0000#4 = 0x01#8 := by
  decide

/-! ## One operation: vectors T1 to T29 -/

/-- What the T vectors list. -/
structure Seen where
  sclOut : Latch
  sdaOut : Latch
  sr : Byte
  bc : BitVec 4
  phase : Phase
  cpf : ClockPhase
deriving DecidableEq, Repr

def seen (t : State) : Seen :=
  ⟨t.sclOut, t.sdaOut, t.sr, t.bc, t.phase, t.cpf⟩

theorem test_idle_wait :
    observe (exec .idleWait (place 0#3 .rise .tx 0#4 0#4)) = some (place 0#3 .rise .tx 0#4 0#4) := by
  decide

theorem test_idle_go :
    observe (exec .idleGo (place 0#3 .rise .tx 0#4 0b0001#4)) = some (place 1#3 .rise .tx 0#4 0b0001#4) := by
  decide

theorem test_start_retry :
    (observe (exec .startRetry (latched .released .drivenLow (place 1#3 .rise .tx 0#4 1#4)))).map
      (fun t => (t.phase, t.sclOut, t.sdaOut, t.cmds)) =
      some (1#3, .released, .released, [.release .scl, .release .sda]) := by
  decide

theorem test_start_cond_read :
    (observe (exec .startCond (place 1#3 .rise .rx 0#4 0b0011#4))).map (fun t => (seen t, t.dir)) =
      some (⟨.released, .drivenLow, 0x53#8, 8#4, 2#3, .fall⟩, .tx) := by
  decide

theorem test_start_cond_write :
    (observe (exec .startCond (place 1#3 .rise .tx 0#4 0b0111#4))).map seen =
      some ⟨.released, .drivenLow, 0x52#8, 8#4, 2#3, .fall⟩ := by
  decide

theorem test_xfer_fall_txbit_zero :
    (observe (exec .xferFallTxbit { place 2#3 .fall .tx 8#4 3#4 with sr := 0x53#8 })).map seen =
      some ⟨.drivenLow, .drivenLow, 0xA6#8, 8#4, 2#3, .rise⟩ := by
  decide

theorem test_xfer_fall_txbit_one :
    (observe (exec .xferFallTxbit { place 2#3 .fall .tx 5#4 3#4 with sr := 0x98#8 })).map seen =
      some ⟨.drivenLow, .released, 0x30#8, 5#4, 2#3, .rise⟩ := by
  decide

theorem test_xfer_rise_tx :
    (observe (exec .xferRiseTx (latched .drivenLow .drivenLow
      { place 2#3 .rise .tx 8#4 3#4 with sr := 0xA6#8 }))).map seen =
      some ⟨.released, .drivenLow, 0xA6#8, 7#4, 2#3, .fall⟩ := by
  decide

theorem test_xfer_rise_tx_last :
    (observe (exec .xferRiseTx (latched .drivenLow .released (place 2#3 .rise .tx 1#4 3#4)))).map seen =
      some ⟨.released, .released, 0x00#8, 0#4, 2#3, .fall⟩ := by
  decide

theorem test_xfer_fall_txend :
    (observe (exec .xferFallTxend (latched .released .drivenLow (place 2#3 .fall .tx 0#4 3#4)))).map seen =
      some ⟨.drivenLow, .released, 0x00#8, 0#4, 3#3, .rise⟩ := by
  decide

theorem test_xfer_rise_rx_one :
    (observe (exec .xferRiseRx (sampled .low .high { place 2#3 .rise .rx 2#4 2#4 with sr := 0x03#8 }))).map seen =
      some ⟨.released, .released, 0x07#8, 1#4, 2#3, .fall⟩ := by
  decide

theorem test_xfer_rise_rx_bit7_lost :
    (observe (exec .xferRiseRx (sampled .low .low { place 2#3 .rise .rx 4#4 2#4 with sr := 0xE5#8 }))).map seen =
      some ⟨.released, .released, 0xCA#8, 3#4, 2#3, .fall⟩ := by
  decide

theorem test_xfer_fall_rxhold :
    (observe (exec .xferFallRxhold { place 2#3 .fall .rx 5#4 2#4 with sr := 0x39#8 })).map seen =
      some ⟨.drivenLow, .released, 0x39#8, 5#4, 2#3, .rise⟩ := by
  decide

theorem test_xfer_fall_rxack :
    (observe (exec .xferFallRxack { place 2#3 .fall .rx 0#4 2#4 with sr := 0x07#8 })).map
      (fun t => (seen t, t.flags)) = some (⟨.drivenLow, .drivenLow, 0x07#8, 0#4, 3#3, .rise⟩, 2#4) := by
  decide

theorem test_xfer_fall_rxnack :
    (observe (exec .xferFallRxnack { place 2#3 .fall .rx 0#4 0#4 with sr := 0x2B#8 })).map seen =
      some ⟨.drivenLow, .released, 0x2B#8, 0#4, 3#3, .rise⟩ := by
  decide

theorem test_ack_rise_tx_ack :
    (observe (exec .ackRiseTx (sampled .low .low (place 3#3 .rise .tx 0#4 3#4)))).map seen =
      some ⟨.released, .released, 0x00#8, 0#4, 3#3, .fall⟩ := by
  decide

theorem test_ack_rise_tx_nack :
    (observe (exec .ackRiseTx (sampled .low .high (place 3#3 .rise .tx 0#4 3#4)))).map seen =
      some ⟨.released, .released, 0x01#8, 0#4, 3#3, .fall⟩ := by
  decide

theorem test_ack_fall_turn :
    (observe (exec .ackFallTurn { place 3#3 .fall .tx 0#4 0b0011#4 with sr := 0x01#8 })).map
      (fun t => (seen t, t.flags, t.dir)) =
      some (⟨.drivenLow, .released, 0x01#8, 8#4, 2#3, .rise⟩, 0b0010#4, .rx) := by
  decide

theorem test_ack_rise_rx0 :
    (observe (exec .ackRiseRx0 (latched .drivenLow .drivenLow { place 3#3 .rise .rx 0#4 2#4 with sr := 0x07#8 }))).map
      (fun t => (t.sclOut, t.sdaOut, t.rb0, t.rb1, t.cpf)) =
      some (.released, .drivenLow, 0x07#8, 0xBB#8, .fall) := by
  decide

theorem test_ack_rise_rx1 :
    (observe (exec .ackRiseRx1 { place 3#3 .rise .rx 0#4 0#4 with sr := 0x2B#8, rb0 := 0x07#8 })).map
      (fun t => (t.sclOut, t.sdaOut, t.rb0, t.rb1, t.cpf)) =
      some (.released, .released, 0x07#8, 0x2B#8, .fall) := by
  decide

theorem test_ack_fall_next :
    (observe (exec .ackFallNext (latched .released .drivenLow (place 3#3 .fall .rx 0#4 0b1010#4)))).map
      (fun t => (seen t, t.flags)) =
      some (⟨.drivenLow, .released, 0x00#8, 8#4, 2#3, .rise⟩, 0b1000#4) := by
  decide

theorem test_ack_fall_last :
    (observe (exec .ackFallLast (place 3#3 .fall .rx 0#4 0#4))).map seen =
      some ⟨.drivenLow, .drivenLow, 0x00#8, 0#4, 4#3, .rise⟩ := by
  decide

theorem test_stop_scl :
    (observe (exec .stopScl (latched .drivenLow .drivenLow (place 4#3 .rise .rx 0#4 0#4)))).map
      (fun t => (seen t, t.done)) =
      some (⟨.released, .drivenLow, 0x00#8, 0#4, 4#3, .fall⟩, none) := by
  decide

theorem test_stop_sda :
    (observe (exec .stopSda (latched .released .drivenLow
      { place 4#3 .fall .rx 0#4 0#4 with rb0 := 0x07#8, rb1 := 0x2B#8 }))).map (fun t => (seen t, t.done)) =
      some (⟨.released, .released, 0x00#8, 0#4, 0#3, .rise⟩, some (0x07#8, 0x2B#8)) := by
  decide

theorem test_fault_recover5 :
    (observe (exec .faultRecover5 (latched .drivenLow .released (place 5#3 .fall .rx 3#4 0#4)))).map seen =
      some ⟨.drivenLow, .released, 0x00#8, 3#4, 4#3, .rise⟩ := by
  decide

theorem test_fault_recover67 :
    (observe (exec .faultRecover67 (place 7#3 .rise .tx 0#4 0#4))).map (fun t => (seen t, t.done)) =
      some (⟨.released, .released, 0x00#8, 0#4, 4#3, .rise⟩, none) := by
  decide

theorem test_reserved_faults :
    faultOf (exec .reserved (place 2#3 .rise .tx 0#4 3#4)) = some .reservedOperation := by
  decide

/-! ## The host: vectors H1 to H6 -/

theorem test_fset :
    (observe (exec (.fset 0b1000#4) { bench with flags := 0b0100#4 })).map State.flags = some 0b1100#4 ∧
    (observe (exec (.fset 0b0000#4) { bench with flags := 0b1111#4 })).map State.flags = some 0b1111#4 := by
  decide

/-! ## The Poll Scheduler: vectors Q1 to Q6 -/

/-- TSLP, TSLFR and FLAGS after one POLL.STEP. -/
def polled (tslp tslfr : Nat) : Nat × Nat × FlagWord :=
  let t := pollStep { bench with tslp := tslp, tslfr := tslfr }
  (t.tslp, t.tslfr, t.flags)

theorem test_poll_step :
    polled 0 0 = (1, 0, 0b0000#4) ∧ polled 4998 0 = (4999, 0, 0b0000#4) ∧ polled 4999 0 = (0, 1, 0b0011#4) ∧
    polled 4999 58 = (0, 59, 0b0011#4) ∧ polled 4999 59 = (0, 0, 0b1011#4) ∧ polled 17 59 = (18, 59, 0b0000#4) := by
  decide

/-! ## The Result Filter/Reporter: vectors F1 to F24 (the boundaries) and G1 to G7 -/

theorem test_filter_errors :
    filterValue 100#8 5#8 = 10000#16 ∧ filterValue 99#8 100#8 = 10000#16 ∧ filterValue 5#8 255#8 = 10000#16 ∧
    filterValue 0#8 20#8 = 0#16 ∧ filterValue 0#8 49#8 = 0#16 ∧ filterValue 0#8 50#8 = 50#16 := by
  decide

theorem test_filter_values :
    filterValue 5#8 67#8 = 570#16 ∧ filterValue 7#8 43#8 = 740#16 ∧ filterValue 0#8 55#8 = 60#16 ∧
    filterValue 0#8 99#8 = 100#16 ∧ filterValue 1#8 4#8 = 100#16 ∧ filterValue 1#8 5#8 = 110#16 ∧
    filterValue 99#8 94#8 = 9990#16 ∧ filterValue 99#8 95#8 = 10000#16 := by
  decide

/-- LRV, PUB and whether something is published, after the report of a pair. -/
def reported (lrv : BitVec 16) (f : FlagWord) (b0 b1 : Byte) : BitVec 16 × Bool × Bool :=
  let t := reportIfDone { bench with lrv := lrv, flags := f, done := some (b0, b1) }
  (t.lrv, pub t.flags, t.published.isSome)

theorem test_reporting :
    reported 0#16 0b0000#4 5#8 67#8 = (570#16, false, true) ∧
    reported 570#16 0b0000#4 5#8 67#8 = (570#16, false, false) ∧
    reported 570#16 0b1000#4 5#8 67#8 = (570#16, false, true) ∧
    reported 570#16 0b1000#4 7#8 43#8 = (740#16, false, true) ∧
    reported 0#16 0b0000#4 0#8 20#8 = (0#16, false, false) := by
  decide

theorem test_payload_digits :
    decimal 570 = ['5', '7', '0'] ∧ decimal 10000 = ['1', '0', '0', '0', '0'] ∧ decimal 0 = ['0'] := by
  decide

theorem test_payload_shape :
    (payload 570#16).length = 30 ∧ (payload 570#16).head? = some openBrace ∧
      ((payload 570#16).drop 1).take 28 = "\"columns\":[[\"Coffee\",\"570\"]]".toList := by
  decide

/-! ## One whole step -/

/-- P4 tick 1: the step samples, decodes, runs and emits nothing. -/
theorem test_step_recovers :
    (observe (step (facing (.tick .high .high) (latched .drivenLow .drivenLow (place 6#3 .fall .rx 3#4 0#4))))).map
      (fun t => (seen t, t.sclIn, t.sdaIn, t.cmds, t.tslp)) =
      some (⟨.drivenLow, .drivenLow, 0x00#8, 3#4, 4#3, .rise⟩, .low, .low, [], 1) := by
  decide

/-- P1 tick 2: a poll set the request in an earlier tick, the bus is quiescent, START. -/
theorem test_step_starts :
    (observe (step (facing (.tick .high .high) (place 1#3 .rise .tx 0#4 0b0011#4)))).map
      (fun t => (seen t, t.cmds)) =
      some (⟨.released, .drivenLow, 0x53#8, 8#4, 2#3, .fall⟩, [.driveLow .sda]) := by
  decide

/-- R184: the poll comes after the operation, so the tick that polls still waits in Idle. -/
theorem test_step_polls_last :
    (observe (step (facing (.tick .high .high) { bench with tslp := 4999 }))).map
      (fun t => (t.phase, t.flags, t.tslp, t.tslfr)) = some (0#3, 0b0011#4, 0, 1) := by
  decide

/-- R232: a tick before "connected" performs nothing, and the same tick behind "connected" is performed. -/
theorem test_no_tick_before_connected :
    (observe (step (facing (.tick .high .high) { bench with armed := false, flags := 1#4, tslp := 4999 }))).map
      (fun t => (t.phase, t.flags, t.tslp)) = some (0#3, 1#4, 4999) ∧
    (observe (step { bench with armed := false, inbox := [.connected, .tick .high .high] })).map
      (fun t => (t.armed, t.flags, nextEvent t)) = some (true, 0b1000#4, .tick .high .high) := by
  decide

theorem test_fetch_word_runs_the_row :
    (observe (step ({ bench with armed := false }.withFetchWord 16 0x04E))).map (fun t => (t.phase, t.cmds)) =
      some (1#3, [.release .scl, .release .sda]) ∧
    (observe (step (bench.withFetchWord 8 0b1000))).map State.flags = some 0b1000#4 ∧
    faultOf (step (bench.withFetchWord 16 0x088)) = some .reservedOperation := by
  decide

/-! ## Witnesses: a state and operands that meet the hypotheses of each obligation -/

theorem tickNext_facing {s : State} (hc : configLegal s.cfg = true) (hr : s.rstHeld = false)
    (ha : s.armed = true) (p q : Level) : TickNext (facing (.tick p q) s) p q :=
  ⟨hc, hr, ha, [], rfl⟩

/-- The premise of O28, O31, O33, O34, O35 and O42 for every placed state with a tick next, whatever its latches. -/
theorem tickNext_place (ph : Phase) (cp : ClockPhase) (dr : Direction) (bc : BitVec 4) (f : FlagWord)
    (scl sda : Latch) (p q : Level) :
    TickNext (facing (.tick p q) (latched scl sda (place ph cp dr bc f))) p q :=
  tickNext_facing rfl rfl rfl p q

/-- Every clause of the invariant has a state that reaches it at the boundary of its range. -/
theorem witness_StepKeepsInvariant :
    BlockInv { bench with tslp := 4999, tslfr := 59 } ∧
    BlockInv (latched .released .released (place 1#3 .rise .tx 0#4 3#4)) ∧
    BlockInv (latched .drivenLow .released (place 2#3 .rise .rx 8#4 2#4)) ∧
    BlockInv (latched .drivenLow .drivenLow { place 2#3 .rise .tx 1#4 3#4 with sr := 0x00#8 }) ∧
    BlockInv (latched .released .drivenLow { place 2#3 .fall .tx 8#4 3#4 with sr := 0x53#8 }) ∧
    BlockInv (latched .released .released (place 2#3 .fall .rx 7#4 2#4)) ∧
    BlockInv (latched .released .released (place 3#3 .fall .tx 0#4 3#4)) ∧
    BlockInv (latched .drivenLow .drivenLow (place 4#3 .rise .rx 0#4 0#4)) := by
  refine ⟨?_, ?_, ?_, ?_, ?_, ?_, ?_, ?_⟩ <;> constructor <;> decide

/-- O8: a tick whose operation runs, and one whose operation stops. -/
theorem witness_StepRunsDecoded :
    (∃ t, exec (decodeOsw (osw (sampled .high .high bench))) (sampled .high .high bench) = .next t ∧ t.phase = 0#3) ∧
    exec (decodeOsw (osw (sampled .low .high (latched .drivenLow .released (place 2#3 .rise .rx 0#4 0#4)))))
      (sampled .low .high (latched .drivenLow .released (place 2#3 .rise .rx 0#4 0#4))) =
      .fault .reservedOperation ∧
    configLegal bench.cfg = true ∧ bench.rstHeld = false ∧ bench.armed = true ∧
    (facing (.tick .high .high) bench).inbox = .tick .high .high :: [] := by
  exact ⟨of_observe (fun t => t.phase = 0#3) (by decide), of_faultOf (by decide), by decide, rfl, rfl, rfl⟩

/-- O13, O14: a bit count at each end of its range. -/
theorem witness_XferRise : (place 2#3 .rise .tx 1#4 3#4).bc ≠ 0#4 ∧ (place 2#3 .rise .rx 15#4 3#4).bc ≠ 0#4 := by
  decide

theorem witness_ReservedFaults : AtReserved (place 2#3 .rise .rx 0#4 3#4) := by
  unfold AtReserved
  decide

theorem witness_FsetEffect : configLegal bench.cfg = true ∧ bench.rstHeld = false ∧
    (facing (.fset 0b0011#4) bench).inbox = .fset 0b0011#4 :: [] := by
  decide

/-- One state for each clause of O28, in its order; where a clause has two answers, two. -/
def transitionStates : List State :=
  [place 0#3 .rise .tx 0#4 0#4, place 0#3 .rise .tx 0#4 1#4, place 1#3 .rise .tx 0#4 3#4,
    latched .drivenLow .released (place 1#3 .rise .tx 0#4 3#4), place 2#3 .rise .rx 1#4 2#4,
    place 2#3 .fall .tx 0#4 3#4, place 2#3 .fall .tx 1#4 3#4, place 3#3 .rise .tx 0#4 3#4] ++
  [place 3#3 .fall .tx 0#4 3#4, place 3#3 .fall .rx 0#4 2#4, place 3#3 .fall .rx 0#4 0#4,
    place 4#3 .rise .rx 0#4 0#4, place 4#3 .fall .rx 0#4 0#4, place 5#3 .rise .tx 0#4 0#4,
    place 7#3 .fall .rx 3#4 3#4]

theorem witness_PhaseTransitions :
    TickNext (facing (.tick .high .high) (place 2#3 .rise .tx 0#4 3#4)) .high .high ∧
    AtReserved (place 2#3 .rise .tx 0#4 3#4) ∧
    (∀ s ∈ transitionStates, TickNext (facing (.tick .high .high) s) .high .high ∧ ¬AtReserved s) := by
  refine ⟨tickNext_facing rfl rfl rfl _ _, by unfold AtReserved; decide, fun s hs => ⟨?_, ?_⟩⟩
  · have h : ∀ s ∈ transitionStates, configLegal s.cfg = true ∧ s.rstHeld = false ∧ s.armed = true := by decide
    exact tickNext_facing (h s hs).1 (h s hs).2.1 (h s hs).2.2 _ _
  · revert s
    unfold AtReserved
    decide

/-- The transition table's own answers for those states, with the bus quiescent wherever the latches allow it. -/
theorem test_phase_transitions :
    transitionStates.map (fun s => (observe (step (facing (.tick .high .high) s))).map State.phase) =
      [some 0#3, some 1#3, some 2#3, some 1#3, some 2#3, some 3#3, some 2#3, some 3#3] ++
      [some 2#3, some 2#3, some 4#3, some 4#3, some 0#3, some 4#3, some 4#3] := by
  decide

theorem witness_PhaseWriters :
    (∃ t, step (facing (.tick .high .high) (place 1#3 .rise .tx 0#4 3#4)) = .next t ∧ t.phase ≠ 1#3) := by
  exact of_observe (fun t => t.phase ≠ 1#3) (by decide)

theorem witness_FlagClearing :
    (∃ t, step (facing (.tick .high .low) (place 3#3 .fall .tx 0#4 0b0001#4)) = .next t ∧ t.flags.getLsbD 0 = false) ∧
    (∃ t, step (facing (.tick .high .low) (place 3#3 .fall .rx 0#4 0b0010#4)) = .next t ∧ t.flags.getLsbD 1 = false) ∧
    (∃ t, step (facing (.tick .high .low) (place 4#3 .fall .rx 0#4 0b1100#4)) = .next t ∧
      t.flags.getLsbD 3 = false ∧ t.flags.getLsbD 2 = true) ∧
    nextEvent (facing (.tick .high .low) bench) ≠ .rst true := by
  exact ⟨of_observe (fun t => t.flags.getLsbD 0 = false) (by decide),
    of_observe (fun t => t.flags.getLsbD 1 = false) (by decide),
    of_observe (fun t => t.flags.getLsbD 3 = false ∧ t.flags.getLsbD 2 = true) (by decide), by decide⟩

/-- O31: the Ack turn, the clause of DIR that the witness below does not reach, and the two SR writers it leaves. -/
theorem witness_RegisterWriters_rest :
    (∃ t, step (facing (.tick .high .high) (place 3#3 .fall .tx 0#4 3#4)) = .next t ∧ t.dir ≠ .tx ∧ t.bc = 8#4) ∧
    (∃ t, step (facing (.tick .high .high) { place 2#3 .fall .tx 1#4 3#4 with sr := 0x80#8 }) = .next t ∧
      t.sr ≠ 0x80#8) ∧
    (∃ t, step (facing (.tick .low .high) (place 3#3 .rise .tx 0#4 3#4)) = .next t ∧ t.sr ≠ 0x00#8) := by
  exact ⟨of_observe (fun t => t.dir ≠ .tx ∧ t.bc = 8#4) (by decide), of_observe (fun t => t.sr ≠ 0x80#8) (by decide),
    of_observe (fun t => t.sr ≠ 0x00#8) (by decide)⟩

theorem witness_RegisterWriters :
    (∃ t, step (facing (.tick .low .high) (place 3#3 .rise .rx 0#4 2#4)) = .next t ∧ t.rb0 ≠ 0xAA#8) ∧
    (∃ t, step (facing (.tick .low .high) (place 3#3 .rise .rx 0#4 0#4)) = .next t ∧ t.rb1 ≠ 0xBB#8) ∧
    (∃ t, step (facing (.tick .high .high) (place 1#3 .rise .rx 0#4 3#4)) = .next t ∧
      t.dir ≠ .rx ∧ t.bc ≠ 0#4 ∧ t.sr ≠ 0x00#8 ∧ t.phase = 2#3) ∧
    (∃ t, step (facing (.tick .low .high) (place 2#3 .rise .rx 1#4 2#4)) = .next t ∧
      t.bc ≠ 1#4 ∧ t.sr ≠ 0x00#8) := by
  exact ⟨of_observe (fun t => t.rb0 ≠ 0xAA#8) (by decide), of_observe (fun t => t.rb1 ≠ 0xBB#8) (by decide),
    of_observe (fun t => t.dir ≠ .rx ∧ t.bc ≠ 0#4 ∧ t.sr ≠ 0x00#8 ∧ t.phase = 2#3) (by decide),
    of_observe (fun t => t.bc ≠ 1#4 ∧ t.sr ≠ 0x00#8) (by decide)⟩

/-- O33, O34: a tick with two commands, one with one, and one with none. -/
theorem witness_CommandOrder :
    (∃ t, step (facing (.tick .high .low) (place 2#3 .fall .rx 0#4 2#4)) = .next t ∧
      t.cmds = [.driveLow .scl, .driveLow .sda]) ∧
    (∃ t, step (facing (.tick .low .high) (latched .drivenLow .released (place 2#3 .rise .rx 1#4 2#4))) = .next t ∧
      t.cmds = [.release .scl] ∧ t.sclIn = .low ∧ t.sdaIn = .high) ∧
    (∃ t, step (facing (.tick .high .high) bench) = .next t ∧ t.cmds = []) := by
  exact ⟨of_observe (fun t => t.cmds = [.driveLow .scl, .driveLow .sda]) (by decide),
    of_observe (fun t => t.cmds = [.release .scl] ∧ t.sclIn = .low ∧ t.sdaIn = .high) (by decide),
    of_observe (fun t => t.cmds = []) (by decide)⟩

/-- One state of the invariant for each clause of O35, whose tick changes SDA. -/
theorem witness_DataValidity :
    (BlockInv (latched .released .released (place 2#3 .fall .rx 0#4 2#4)) ∧
      ∃ t, step (facing (.tick .high .high) (latched .released .released (place 2#3 .fall .rx 0#4 2#4))) = .next t ∧
        t.sdaOut ≠ .released) ∧
    (BlockInv (place 1#3 .rise .tx 0#4 3#4) ∧
      ∃ t, step (facing (.tick .high .high) (place 1#3 .rise .tx 0#4 3#4)) = .next t ∧ t.sdaOut ≠ .released) ∧
    (BlockInv (latched .released .drivenLow (place 4#3 .fall .rx 0#4 0#4)) ∧
      ∃ t, step (facing (.tick .high .high) (latched .released .drivenLow (place 4#3 .fall .rx 0#4 0#4))) = .next t ∧
        t.sdaOut ≠ .drivenLow) := by
  refine ⟨⟨?_, of_observe (fun t => t.sdaOut ≠ .released) (by decide)⟩,
    ⟨?_, of_observe (fun t => t.sdaOut ≠ .released) (by decide)⟩,
    ⟨?_, of_observe (fun t => t.sdaOut ≠ .drivenLow) (by decide)⟩⟩ <;> constructor <;> decide

/-- A start state with `n` ticks next, the peer leaving both lines alone. -/
def long (n : Nat) (s : State) : State :=
  { s with inbox := ticks (fun _ => .high) (fun _ => .high) n ++ [.quiet] }

theorem witness_TransmittedByte :
    let s := long 17 { place 2#3 .fall .tx 8#4 3#4 with sr := 0xB2#8 }
    configLegal s.cfg = true ∧ s.rstHeld = false ∧ s.armed = true ∧ s.phase = 2#3 ∧ s.cpf = .fall ∧ s.dir = .tx ∧ s.bc = 8#4 ∧
      s.sr = 0xB2#8 ∧ s.inbox = ticks (fun _ => .high) (fun _ => .high) 17 ++ [.quiet] := by
  decide

theorem witness_ReceivedByte :
    let s := long 16 (latched .drivenLow .released (place 2#3 .rise .rx 8#4 2#4))
    configLegal s.cfg = true ∧ s.rstHeld = false ∧ s.armed = true ∧ s.phase = 2#3 ∧ s.cpf = .rise ∧ s.dir = .rx ∧ s.bc = 8#4 ∧
      s.sdaOut = .released ∧ s.inbox = ticks (fun _ => .high) (fun _ => .high) 16 ++ [.quiet] := by
  decide

/-- O38; the levels of both lines are the same function, so the premises on p 2 and q 2 are one. -/
theorem witness_WholeTransaction :
    let s := long 59 { place 0#3 .rise .tx 0#4 3#4 with tslp := 4940 }
    configLegal s.cfg = true ∧ s.rstHeld = false ∧ s.armed = true ∧ s.phase = 0#3 ∧ s.flags.getLsbD 0 = true ∧
      s.flags.getLsbD 1 = true ∧ s.sclOut = .released ∧ s.sdaOut = .released ∧
      s.tslp + 59 < s.cfg.pollInterval ∧ (fun _ : Nat => Level.high) 2 = .high ∧
      s.inbox = ticks (fun _ => .high) (fun _ => .high) 59 ++ [.quiet] := by
  decide

/-- O39; the levels as for O38. -/
theorem witness_OneByteTransaction :
    let s := long 41 { place 0#3 .rise .tx 0#4 1#4 with tslp := 4958 }
    configLegal s.cfg = true ∧ s.rstHeld = false ∧ s.armed = true ∧ s.phase = 0#3 ∧ s.flags.getLsbD 0 = true ∧
      s.flags.getLsbD 1 = false ∧ s.sclOut = .released ∧ s.sdaOut = .released ∧
      s.tslp + 41 < s.cfg.pollInterval ∧ (fun _ : Nat => Level.high) 2 = .high ∧
      s.inbox = ticks (fun _ => .high) (fun _ => .high) 41 ++ [.quiet] := by
  decide

theorem witness_StartStallsForever :
    let s := { place 1#3 .rise .tx 0#4 3#4 with
      inbox := ticks (fun _ => .high) (fun _ => .low) (0 + 1) ++ [EnvEvent.quiet] }
    configLegal s.cfg = true ∧ s.rstHeld = false ∧ s.armed = true ∧ s.phase = 1#3 ∧ s.flags.getLsbD 0 = true ∧
      (∀ k : Nat, (fun _ => Level.high) k = .low ∨ (fun _ => Level.low) k = .low) ∧
      s.inbox = ticks (fun _ => .high) (fun _ => .low) (0 + 1) ++ [.quiet] := by
  exact ⟨rfl, rfl, rfl, rfl, rfl, fun _ => .inr rfl, rfl⟩

theorem witness_RecoveryInThreeTicks :
    ∀ ph ∈ [5#3, 7#3], let s := long 3 (place ph .fall .rx 3#4 0#4)
    configLegal s.cfg = true ∧ s.rstHeld = false ∧ s.armed = true ∧ 5 ≤ s.phase.toNat ∧
      s.inbox = ticks (fun _ => .high) (fun _ => .high) 3 ++ [.quiet] := by
  decide

theorem witness_AcknowledgeIgnored :
    TickNext (facing (.tick .high .high) (place 3#3 .fall .tx 0#4 3#4)) .high .high ∧
    ∃ t, step (facing (.tick .high .high) (place 3#3 .fall .tx 0#4 3#4)) = .next t ∧ t.phase = 2#3 := by
  exact ⟨tickNext_facing rfl rfl rfl _ _, of_observe (fun t => t.phase = 2#3) (by decide)⟩

theorem witness_LinesReadOnlyThere :
    let s := place 3#3 .rise .rx 0#4 2#4
    s.phase ≠ 1#3 ∧ ¬(s.phase = 2#3 ∧ s.cpf = .rise ∧ s.dir = .rx) ∧
      ¬(s.phase = 3#3 ∧ s.cpf = .rise ∧ s.dir = .tx) ∧
      ∃ t, step { s with inbox := [.tick .low .low] } = .next t ∧ t.phase = 3#3 := by
  exact ⟨by decide, by decide, by decide, of_observe (fun t => t.phase = 3#3) (by decide)⟩

theorem witness_PollStepEffect :
    ({ bench with tslp := 4998 }).tslp + 1 ≠ bench.cfg.pollInterval ∧
    ({ bench with tslp := 4999 }).tslp + 1 = bench.cfg.pollInterval ∧
    ({ bench with tslfr := 58 }).tslfr + 1 ≠ bench.cfg.forcedCount ∧
    ({ bench with tslfr := 59 }).tslfr + 1 = bench.cfg.forcedCount := by
  decide

theorem witness_PollPeriod : configLegal bench.cfg = true ∧ bench.tslp = 0 ∧ bench.tslfr = 0 := by
  decide

/-- O46, O47: bytes at the ends of each clause's range, and that the clauses meet nowhere. -/
theorem witness_FilterValues :
    (99 < (100#8).toNat ∨ 99 < (0#8).toNat) ∧ ((0#8).toNat = 0 ∧ (49#8).toNat < 50) ∧
    ((0#8).toNat ≤ 99 ∧ (50#8).toNat ≤ 99 ∧ ¬((0#8).toNat = 0 ∧ (50#8).toNat < 50)) ∧
    ((99#8).toNat ≤ 99 ∧ ¬((99#8).toNat = 0 ∧ (99#8).toNat < 50)) := by
  decide

theorem witness_SentinelCollision :
    (filterValue 99#8 95#8).toNat = 10000 ∧ (filterValue 99#8 94#8).toNat = 9990 ∧
      (filterValue 98#8 99#8).toNat = 9900 ∧ (99#8).toNat ≤ 99 ∧ (95#8).toNat ≤ 99 := by
  decide

theorem witness_ReportDecision :
    let s := { bench with done := some (5#8, 67#8), lrv := 570#16 }
    (filterValue 5#8 67#8 = s.lrv ∧ s.flags.getLsbD 3 = false) ∧
    (filterValue 7#8 43#8 ≠ s.lrv ∨ s.flags.getLsbD 3 = true) ∧ s.done = some (5#8, 67#8) ∧ bench.done = none := by
  decide

theorem witness_RepeatedReportSuppressed :
    let s := { bench with done := some (5#8, 67#8) }
    let u := { bench with done := some (5#8, 67#8), lrv := 570#16, flags := 0b1000#4 }
    s.done = some (5#8, 67#8) ∧ u.done = some (5#8, 67#8) ∧ u.lrv = (reportIfDone s).lrv ∧ u.published = none := by
  decide

theorem witness_DoneOnlyAtStop :
    ∃ t, step (facing (.tick .high .low) (latched .released .drivenLow (place 4#3 .fall .rx 0#4 0#4))) = .next t ∧
      t.done = some (0xAA#8, 0xBB#8) := by
  exact of_observe (fun t => t.done = some (0xAA#8, 0xBB#8)) (by decide)

theorem witness_ResetInput : configLegal bench.cfg = true ∧
    (facing (.rst true) (place 2#3 .fall .rx 5#4 3#4)).inbox = .rst true :: [] ∧
    (facing (.rst false) { bench with rstHeld := true }).inbox = .rst false :: [] := by
  decide

theorem witness_HeldInReset :
    ∀ e ∈ [EnvEvent.tick .high .low, .fset 0b0011#4, .connectionError, .quiet, .connected],
      let s := facing e { bench with rstHeld := true }
      configLegal s.cfg = true ∧ s.rstHeld = true ∧ s.inbox = e :: [] := by
  decide

theorem witness_ConnectionEvents : configLegal bench.cfg = true ∧ bench.rstHeld = false ∧
    (facing .connected bench).inbox = .connected :: [] ∧
    (facing .connectionError bench).inbox = .connectionError :: [] := by
  decide

theorem witness_NoTickBeforeConnected :
    let s := facing (.tick .high .high) { bench with armed := false }
    configLegal s.cfg = true ∧ s.armed = false ∧ s.inbox = .tick .high .high :: [] := by
  decide

theorem witness_ParametersNeverWritten :
    ∃ t, step (facing (.fset 0b0001#4) bench) = .next t ∧ t.flags = 0b0001#4 := by
  exact of_observe (fun t => t.flags = 0b0001#4) (by decide)

/-- U11 at its boundaries. -/
theorem test_configurations :
    configLegal { bench.cfg with pollInterval := 59 } = false ∧
    configLegal { bench.cfg with pollInterval := 60 } = true ∧
    configLegal { bench.cfg with forcedCount := 0 } = false ∧
    configLegal { bench.cfg with forcedCount := 1 } = true := by
  decide

end Sys2Proof.Tests
end

/-! PROOFS. The parameters are constants of an instance (10_state.md R35). -/

namespace Sys2Proof.Machine

/-- The operation of a tick reads parameters (SLAVE_ADDR7 at START.COND) and writes none. -/
theorem CoreTick.cfg_eq {s u : State} (h : CoreTick s u) : u.cfg = s.cfg := by
  cases h <;> rfl

/-- After the operation, the Reporter and the Poll Scheduler read the channel name, the poll interval and the forced
report count, and write none of them. -/
theorem CoreTick.cfg_afterwards {s u : State} (h : CoreTick s u) : (pollStep (reportIfDone u)).cfg = s.cfg := by
  rw [pollStep_cfg, reportIfDone_cfg, h.cfg_eq]

/-- Settles O56, by the cases of one step: a tick is its operation and the blocks after it, and every other move
writes flags, the arming, rst or the registers a reset names. -/
theorem parametersNeverWritten : Obligations.ParametersNeverWritten := by
  intro s t h
  obtain ⟨l, n, hcases⟩ := step_next_cases h
  rcases hcases with ⟨p, q, -, htick⟩ | ⟨m, -, hfset⟩ | ⟨-, hconn⟩ | ⟨-, rfl⟩ | ⟨-, rfl⟩ | ⟨-, rfl⟩
  · obtain ⟨-, rfl⟩ | ⟨-, u, hcore, rfl⟩ := htick
    · rfl
    · exact hcore.cfg_afterwards
  · obtain rfl | rfl := hfset <;> rfl
  · obtain rfl | rfl := hconn <;> rfl
  · rfl
  · rfl
  · rfl

end Sys2Proof.Machine

/-! PROOFS. The address byte (30_encoding.md R91) as the address with RW appended as its lowest bit. -/

namespace Sys2Proof.Machine

/-- RW as a truth value: a read exactly when no reset is requested. -/
theorem readWriteBit_eq_ofBool (f : FlagWord) : readWriteBit f = (BitVec.ofBool (!rrq f)).setWidth 8 := by
  unfold readWriteBit
  cases rrq f <;> rfl

/-- The shift leaves bit 0 free for RW, so the byte is the address followed by that one bit. -/
theorem addressByte_eq_concat (a : BitVec 7) (f : FlagWord) : addressByte a f = a.concat (!rrq f) := by
  rw [addressByte, readWriteBit_eq_ofBool, BitVec.concat, BitVec.append_def, BitVec.shiftLeftZeroExtend_eq,
    BitVec.setWidth'_eq]

/-- The value of the byte, as START.COND loads it into SR (R165). -/
theorem addressByte_toNat (a : BitVec 7) (f : FlagWord) :
    (addressByte a f).toNat = 2 * a.toNat + (if f.getLsbD 2 then 0 else 1) := by
  rw [addressByte_eq_concat, BitVec.toNat_concat, rrq, Nat.mul_comm]
  cases f.getLsbD 2 <;> rfl

/-- Settles O58, by reading the two parts of the concatenation back. -/
theorem addressByte_layout : Obligations.AddressByte := by
  intro a f
  refine ⟨?_, ?_, addressByte_toNat a f⟩
  · rw [addressByte_eq_concat]
    exact BitVec.extractLsb'_append_eq_left
  · rw [addressByte_eq_concat, BitVec.getLsbD_concat_zero, Bool.not_eq_true', rrq]

end Sys2Proof.Machine

/-! PROOFS. The two line commands and the level each leaves on its line (40_line_driver.md R121, R122). -/

namespace Sys2Proof.Machine

/-- After a release the level of either line is the peer's: the pull-up wins only where the peer lets it (R121). -/
theorem senseLevel_release (s : State) (peer : Level) :
    senseLevel (release .scl s).sclOut peer = peer ∧ senseLevel (release .sda s).sdaOut peer = peer := by
  rw [release_scl, release_sda]
  exact ⟨senseLevel_released peer, senseLevel_released peer⟩

/-- A line the block drives low reads low whatever the peer does (R122). -/
theorem senseLevel_driveLow (s : State) (peer : Level) :
    senseLevel (driveLow .scl s).sclOut peer = .low ∧ senseLevel (driveLow .sda s).sdaOut peer = .low := by
  rw [driveLow_scl, driveLow_sda]
  exact ⟨senseLevel_drivenLow peer, senseLevel_drivenLow peer⟩

/-- Settles O32: the four equations of the commands give the latch, the command and the frame; the open-drain law
at the latch each command leaves gives the levels. -/
theorem linePrimitives : Obligations.LinePrimitives := by
  intro s
  refine ⟨release_scl s, release_sda s, driveLow_scl s, driveLow_sda s, fun peer => ?_⟩
  obtain ⟨hsclReleased, hsdaReleased⟩ := senseLevel_release s peer
  obtain ⟨hsclLow, hsdaLow⟩ := senseLevel_driveLow s peer
  exact ⟨hsclReleased, hsdaReleased, hsclLow, hsdaLow⟩

end Sys2Proof.Machine

/-! PROOFS. Which words and states select a row of the operation map (30_encoding.md R94, R95), in particular a row
of the bit engine whose mask tests PH, CP, DR and BCZ. -/

namespace Sys2Proof.Machine

section row
variable {r r' : MapRow} {w : Osw}

/-- Two rows that one word selects agree on every bit that both masks test. -/
theorem MapRow.pat_agree (h : w &&& r.mask = r.pat) (h' : w &&& r'.mask = r'.pat) :
    r.pat &&& r'.mask = r'.pat &&& r.mask := by
  rw [← h, ← h', BitVec.and_assoc, BitVec.and_assoc, BitVec.and_comm r.mask]

/-- Any two rows of the map differ in a bit that both masks test. -/
theorem operationMap_rows_disjoint :
    ∀ r ∈ operationMap, ∀ r' ∈ operationMap, r.pat &&& r'.mask = r'.pat &&& r.mask → r = r' := by
  decide

/-- No operation has two rows. -/
theorem operationMap_instrs_nodup : (operationMap.map MapRow.instr).Nodup := by
  decide

/-- A word decodes to an operation exactly where it selects the operation's row: the first row it selects is the only
one, and an operation has one row. The reserved operation is left out, for `decodeOsw` also gives it where no row is
selected. -/
theorem decodeOsw_eq_instr_iff (hr : r ∈ operationMap) (hn : r.instr ≠ .reserved) (w : Osw) :
    decodeOsw w = r.instr ↔ w &&& r.mask = r.pat := by
  unfold decodeOsw
  split
  next r' hfind =>
    have hr' : r' ∈ operationMap := List.mem_of_find?_eq_some hfind
    have hselects := List.find?_some hfind
    have hw' : w &&& r'.mask = r'.pat := beq_iff_eq.mp hselects
    constructor
    · intro h
      rwa [← List.inj_on_of_nodup_map operationMap_instrs_nodup hr' hr h]
    · intro h
      rw [operationMap_rows_disjoint r' hr' r hr (MapRow.pat_agree hw' h)]
  next hnone =>
    have hw : w &&& r.mask ≠ r.pat := fun h => List.find?_eq_none.mp hnone r hr (beq_iff_eq.mpr h)
    exact ⟨fun h => absurd h.symm hn, fun h => absurd h hw⟩

end row

section fields

/-- Both parts of a concatenation can be read back from it. -/
theorem append_inj {m n : Nat} {x x' : BitVec m} {y y' : BitVec n} (h : x ++ y = x' ++ y') : x = x' ∧ y = y' := by
  constructor
  · rw [← BitVec.extractLsb'_append_eq_left (a := x) (b := y), h, BitVec.extractLsb'_append_eq_left]
  · rw [← BitVec.extractLsb'_append_eq_right (a := x) (b := y), h, BitVec.extractLsb'_append_eq_right]

theorem clockBit_injective : Function.Injective clockBit := by
  intro c c'
  cases c <;> cases c' <;> decide

theorem directionBit_injective : Function.Injective directionBit := by
  intro d d'
  cases d <;> cases d' <;> decide

/-- PH, CP, DR and BCZ can be read back from a word. -/
theorem wordOf_inj {ph ph' : Phase} {cp cp' : ClockPhase} {dr dr' : Direction} {bcz bcz' fb tq qt : Bool}
    (h : wordOf ph cp dr bcz fb tq qt = wordOf ph' cp' dr' bcz' fb tq qt) :
    ph = ph' ∧ cp = cp' ∧ dr = dr' ∧ bcz = bcz' := by
  obtain ⟨h, -⟩ := append_inj h
  obtain ⟨h, -⟩ := append_inj h
  obtain ⟨h, -⟩ := append_inj h
  obtain ⟨h, hbcz⟩ := append_inj h
  obtain ⟨h, hdr⟩ := append_inj h
  obtain ⟨hph, hcp⟩ := append_inj h
  exact ⟨hph, clockBit_injective hcp, directionBit_injective hdr, BitVec.ofBool_eq_iff_eq.mp hbcz⟩

/-- Mask 0x1F8 keeps PH, CP, DR and BCZ and clears FB, TQ and QT. -/
theorem wordOf_and_engineMask (ph : Phase) (cp : ClockPhase) (dr : Direction) (bcz fb tq qt : Bool) :
    wordOf ph cp dr bcz fb tq qt &&& 0x1F8#9 = wordOf ph cp dr bcz false false false := by
  cases cp <;> cases dr <;> revert ph bcz fb tq qt <;> decide

/-- Under mask 0x1F8 the select word of a state tells its PHASE, CPF, DIR and whether BC is 0, and nothing else. -/
theorem osw_and_engineMask_iff (s : State) (ph : Phase) (cp : ClockPhase) (dr : Direction) (bcz : Bool) :
    osw s &&& 0x1F8#9 = wordOf ph cp dr bcz false false false ↔
      s.phase = ph ∧ s.cpf = cp ∧ s.dir = dr ∧ bitCountZero s = bcz := by
  rw [osw_eq_wordOf, wordOf_and_engineMask]
  constructor
  · exact wordOf_inj
  · rintro ⟨rfl, rfl, rfl, rfl⟩
    rfl

theorem bitCountZero_eq_false_iff (s : State) : bitCountZero s = false ↔ s.bc ≠ 0#4 := by
  rw [Bool.eq_false_iff, ne_eq, bitCountZero_iff]

end fields

/-- The words and the states that select an operation of the bit engine whose row tests PH, CP, DR and BCZ (R96). -/
theorem engineRow_selected {i : Instr} {cp : ClockPhase} {dr : Direction} {bcz : Bool} {pat : Osw}
    (hpat : pat = wordOf 2#3 cp dr bcz false false false) (hrow : ⟨i, 0x1F8#9, pat⟩ ∈ operationMap)
    (hn : i ≠ .reserved) :
    (∀ w : Osw, decodeOsw w = i ↔ w &&& 0x1F8#9 = pat) ∧
      ∀ s : State, decodeOsw (osw s) = i ↔
        s.phase = 2#3 ∧ s.cpf = cp ∧ s.dir = dr ∧ bitCountZero s = bcz := by
  have hword (w : Osw) : decodeOsw w = i ↔ w &&& 0x1F8#9 = pat := decodeOsw_eq_instr_iff hrow hn w
  refine ⟨hword, fun s => ?_⟩
  rw [hword, hpat, osw_and_engineMask_iff]

end Sys2Proof.Machine

/-! PROOFS. The falling half of the bit engine: XFER.FALL.TXBIT, XFER.FALL.TXEND and XFER.FALL.RXHOLD
(41_bit_engine.md R146, R147, R148). -/

namespace Sys2Proof.Machine

/-- `trunc_8(SR << 1)` (R146) on the numbers. -/
theorem shiftOut_eq_ofNat (sr : Byte) : shiftOut sr = BitVec.ofNat 8 (2 * sr.toNat) := by
  apply BitVec.eq_of_toNat_eq
  rw [shiftOut, BitVec.toNat_shiftLeft, BitVec.toNat_ofNat, Nat.shiftLeft_eq, pow_one, Nat.mul_comm]

/-- Bit 7 of a byte is 1 exactly from 128 on. -/
theorem getLsbD_seven_eq (sr : Byte) : sr.getLsbD 7 = decide (128 ≤ sr.toNat) :=
  (BitVec.msb_eq_getLsbD_last sr).symm.trans (BitVec.msb_eq_decide sr)

/-- Sending the high bit of a byte (R146): SDA driven low for a byte below 128, released for the others. -/
theorem putBit_highBit (sr : Byte) (s : State) :
    putBit (sr.getLsbD 7) s = { s with
      sdaOut := if sr.toNat < 128 then .drivenLow else .released
      cmds := s.cmds ++ [if sr.toNat < 128 then .driveLow .sda else .release .sda] } := by
  rw [getLsbD_seven_eq]
  by_cases hlow : sr.toNat < 128
  · rw [decide_eq_false (Nat.not_le.mpr hlow), if_pos hlow, if_pos hlow]
    rfl
  · rw [decide_eq_true (Nat.not_lt.mp hlow), if_neg hlow, if_neg hlow]
    rfl

/-- Settles O15: its row is selected by a falling tick of a byte being sent with bits left, and the bit that goes out
is read off SR as a number. -/
theorem xferFallTxbitEffect : Obligations.XferFallTxbitEffect := by
  obtain ⟨hword, hstate⟩ := engineRow_selected (i := .xferFallTxbit) (cp := .fall) (dr := .tx) (bcz := false)
    (pat := 0x0A0#9) rfl (by decide) (by decide)
  refine ⟨hword, fun s => ?_, fun s => ?_⟩
  · rw [hstate, bitCountZero_eq_false_iff]
  · have hexec : exec .xferFallTxbit s =
        .next ((putBit (s.sr.getLsbD 7) (fallingHalf s)).setSr (shiftOut s.sr)) := rfl
    rw [hexec, putBit_highBit, shiftOut_eq_ofNat, ← append_two]
    rfl

/-- Settles O16: its row is selected by the falling tick after the last bit sent, which releases SDA for the
acknowledge. -/
theorem xferFallTxendEffect : Obligations.XferFallTxendEffect := by
  obtain ⟨hword, hstate⟩ := engineRow_selected (i := .xferFallTxend) (cp := .fall) (dr := .tx) (bcz := true)
    (pat := 0x0A8#9) rfl (by decide) (by decide)
  refine ⟨hword, fun s => ?_, fun s => ?_⟩
  · rw [hstate, bitCountZero_iff]
  · have hexec : exec .xferFallTxend s = .next ((release .sda (fallingHalf s)).setPhase Phase.ack) := rfl
    rw [hexec, release_sda, fallingHalf_eq, ← append_two]
    rfl

/-- Settles O17: its row is selected by a falling tick of a byte being received with bits left, and its effect is the
falling half alone. -/
theorem xferFallRxholdEffect : Obligations.XferFallRxholdEffect := by
  obtain ⟨hword, hstate⟩ := engineRow_selected (i := .xferFallRxhold) (cp := .fall) (dr := .rx) (bcz := false)
    (pat := 0x0B0#9) rfl (by decide) (by decide)
  refine ⟨hword, fun s => ?_, fun s => congrArg Host.Outcome.next (fallingHalf_eq s)⟩
  rw [hstate, bitCountZero_eq_false_iff]

end Sys2Proof.Machine

/-! PROOFS. The rows of phase Idle, whose mask tests PH and TQ, and the operation IDLE.WAIT (42_sequencer.md R161). -/

namespace Sys2Proof.Machine

/-- Mask 0x1C2 keeps PH and TQ and clears the other five fields. -/
theorem wordOf_and_idleMask (ph : Phase) (cp : ClockPhase) (dr : Direction) (bcz fb tq qt : Bool) :
    wordOf ph cp dr bcz fb tq qt &&& 0x1C2#9 = wordOf ph .rise .tx false false tq false := by
  cases cp <;> cases dr <;> revert ph bcz fb tq qt <;> decide

/-- PH and TQ can be read back from a word whose other fields are known. -/
theorem wordOf_inj_phase_treq {ph ph' : Phase} {cp : ClockPhase} {dr : Direction} {bcz fb tq tq' qt : Bool}
    (h : wordOf ph cp dr bcz fb tq qt = wordOf ph' cp dr bcz fb tq' qt) : ph = ph' ∧ tq = tq' := by
  obtain ⟨hfields, -⟩ := append_inj h
  obtain ⟨-, htq⟩ := append_inj hfields
  obtain rfl := BitVec.ofBool_eq_iff_eq.mp htq
  obtain ⟨hph, -⟩ := wordOf_inj h
  exact ⟨hph, rfl⟩

/-- Under mask 0x1C2 the select word of a state tells its PHASE and TREQ, and nothing else. -/
theorem osw_and_idleMask_iff (s : State) (ph : Phase) (tq : Bool) :
    osw s &&& 0x1C2#9 = wordOf ph .rise .tx false false tq false ↔ s.phase = ph ∧ treq s.flags = tq := by
  rw [osw_eq_wordOf, wordOf_and_idleMask]
  constructor
  · exact wordOf_inj_phase_treq
  · rintro ⟨rfl, rfl⟩
    rfl

/-- Settles O9: its row is selected by an idle tick with no transaction requested, and its effect is the state it
started from. -/
theorem idleWaitEffect : Obligations.IdleWaitEffect := by
  have hword (w : Osw) : decodeOsw w = .idleWait ↔ w &&& 0x1C2#9 = 0x000#9 :=
    decodeOsw_eq_instr_iff (r := ⟨.idleWait, 0x1C2#9, 0x000#9⟩) (by decide) (by decide) w
  refine ⟨hword, fun s => ?_, fun s => rfl⟩
  rw [hword]
  exact osw_and_idleMask_iff s 0#3 false

end Sys2Proof.Machine

/-! PROOFS. The value of the filter in the three cases of the first match (44_result_filter.md R211, R212, R214) and
rounding to the nearest multiple of 10 (R213). -/

namespace Sys2Proof.Machine

/-- The nearest multiple of 10, a tie going up (R213). -/
theorem round10_nearest (n : Nat) : round10 n % 10 = 0 ∧ round10 n ≤ n + 5 ∧ n < round10 n + 5 := by
  unfold round10
  split <;> omega

section value
variable {b0 b1 : Byte}

theorem filterValue_of_outOfRange (h : 99 < b0.toNat ∨ 99 < b1.toNat) : filterValue b0 b1 = 10000#16 :=
  if_pos h

theorem filterValue_of_noise (h : b0.toNat = 0 ∧ b1.toNat < 50) : filterValue b0 b1 = 0#16 := by
  have hrange : ¬(b0.toNat > Config.rangeMax ∨ b1.toNat > Config.rangeMax) := by
    simp only [Config.rangeMax]
    omega
  rw [filterValue, if_neg hrange]
  exact if_pos h

theorem filterValue_toNat_of_inRange (h0 : b0.toNat ≤ 99) (h1 : b1.toNat ≤ 99)
    (h : ¬(b0.toNat = 0 ∧ b1.toNat < 50)) : (filterValue b0 b1).toNat = 100 * b0.toNat + round10 b1.toNat := by
  have hrange : ¬(b0.toNat > Config.rangeMax ∨ b1.toNat > Config.rangeMax) :=
    not_or.mpr ⟨Nat.not_lt.mpr h0, Nat.not_lt.mpr h1⟩
  have hnoise : ¬(b0.toNat = 0 ∧ b1.toNat < Config.noiseLimit) := h
  obtain ⟨-, hround, -⟩ := round10_nearest b1.toNat
  rw [filterValue, if_neg hrange, if_neg hnoise, BitVec.toNat_ofNat]
  exact Nat.mod_eq_of_lt (by omega)

/-- In range and above the noise, rounding cannot fall below the noise limit nor pass the sentinel: both are
multiples of 10. -/
theorem filterValue_bounds_of_inRange (h0 : b0.toNat ≤ 99) (h1 : b1.toNat ≤ 99)
    (h : ¬(b0.toNat = 0 ∧ b1.toNat < 50)) : 50 ≤ (filterValue b0 b1).toNat ∧ (filterValue b0 b1).toNat ≤ 10000 := by
  obtain ⟨hmultiple, hround, hround'⟩ := round10_nearest b1.toNat
  rw [filterValue_toNat_of_inRange h0 h1 h]
  omega

end value

/-- No pair gives more than the sentinel. -/
theorem filterValue_toNat_le (b0 b1 : Byte) : (filterValue b0 b1).toNat ≤ 10000 := by
  by_cases hrange : 99 < b0.toNat ∨ 99 < b1.toNat
  · rw [filterValue_of_outOfRange hrange]
    decide
  by_cases hnoise : b0.toNat = 0 ∧ b1.toNat < 50
  · rw [filterValue_of_noise hnoise]
    decide
  · obtain ⟨h0, h1⟩ := not_or.mp hrange
    exact (filterValue_bounds_of_inRange (Nat.not_lt.mp h0) (Nat.not_lt.mp h1) hnoise).2

/-- Settles O46: one equation of the filter for each of its three cases, with `round10 byte1` as the nearest
multiple of 10. -/
theorem filterValues : Obligations.FilterValues := by
  intro b0 b1
  refine ⟨fun h => ?_, fun h => ?_, fun h0 h1 h => ⟨?_, round10 b1.toNat, ?_⟩, filterValue_toNat_le b0 b1⟩
  · exact congrArg BitVec.toNat (filterValue_of_outOfRange h)
  · exact congrArg BitVec.toNat (filterValue_of_noise h)
  · exact (filterValue_bounds_of_inRange h0 h1 h).1
  · obtain ⟨hmultiple, hround, hround'⟩ := round10_nearest b1.toNat
    exact ⟨hmultiple, hround, hround', filterValue_toNat_of_inRange h0 h1 h⟩

end Sys2Proof.Machine

/-! PROOFS. The reporting decision and the two outcomes of a report (44_result_filter.md R215, R216). -/

namespace Sys2Proof.Machine

theorem mustReport_iff (value : BitVec 16) (s : State) :
    mustReport value s = true ↔ value ≠ s.lrv ∨ pub s.flags = true := by
  rw [mustReport, Bool.or_eq_true, decide_eq_true_iff]

section report
variable {b0 b1 : Byte} {s : State}

/-- A value that is new, or asked for by PUB, is published and becomes LRV, and the request is taken back. -/
theorem filterReport_publishes (h : filterValue b0 b1 ≠ s.lrv ∨ pub s.flags = true) :
    filterReport b0 b1 s = { s with
      ccv := filterValue b0 b1, lrv := filterValue b0 b1, flags := clearPub s.flags
      published := some ⟨s.cfg.channel, payload (filterValue b0 b1)⟩ } :=
  if_pos ((mustReport_iff _ s).mpr h)

/-- A value equal to LRV that nobody asked for goes to CCV alone. -/
theorem filterReport_silent (hsame : filterValue b0 b1 = s.lrv) (hpub : pub s.flags = false) :
    filterReport b0 b1 s = { s with ccv := filterValue b0 b1 } := by
  have hquiet : ¬(filterValue b0 b1 ≠ s.lrv ∨ pub s.flags = true) :=
    not_or.mpr ⟨not_not.mpr hsame, Bool.eq_false_iff.mp hpub⟩
  exact if_neg (mt (mustReport_iff _ s).mp hquiet)

end report

/-- Settles O48: without `done` the Reporter does not run (R184, step 4); with it, it is FILTER.REPORT on the pair,
whose decision splits into the two outcomes. -/
theorem reportDecision : Obligations.ReportDecision := by
  refine fun s => ⟨reportIfDone_none, fun b0 b1 hdone => ?_⟩
  rw [reportIfDone_some hdone]
  exact ⟨filterReport_publishes, filterReport_silent⟩

end Sys2Proof.Machine

/-! PROOFS. The outcomes of one move of the environment, and the invariant of the reachable states kept by each of
them (10_state.md R42, R43). -/

namespace Sys2Proof.Machine

section outcome

/-- A tick faults in the reserved situation; everywhere else its operation answers, and the Reporter and the Poll
Scheduler follow (42_sequencer.md R184). -/
theorem tickOperation_cases (s : State) :
    (AtReserved s ∧ tickOperation s = .fault .reservedOperation) ∨
      (¬AtReserved s ∧ ∃ u, CoreTick s u ∧ tickOperation s = .next (pollStep (reportIfDone u))) := by
  by_cases hn : AtReserved s
  · exact .inl ⟨hn, by rw [tickOperation, exec_at_reserved hn]; rfl⟩
  · obtain ⟨u, hexec, hcore⟩ := coreTick_of_not_reserved hn
    exact .inr ⟨hn, u, hcore, by rw [tickOperation, hexec]; rfl⟩

/-- A move of the environment answers a next state, or faults as a tick in the reserved situation. -/
theorem performEvent_outcome (e : EnvEvent) (s : State) :
    (∃ t, performEvent e s = .next t) ∨
      (AtReserved s ∧ (∃ p q, e = .tick p q) ∧ performEvent e s = .fault .reservedOperation) := by
  cases e with
  | tick p q =>
    by_cases hr : s.rstHeld = true
    · exact .inl ⟨clearOutputs s, if_pos hr⟩
    · have htick : performEvent (.tick p q) s = tickOperation (sampleLines p q (clearOutputs s)) := if_neg hr
      rw [htick]
      rcases tickOperation_cases (sampleLines p q (clearOutputs s)) with ⟨hres, hfault⟩ | ⟨-, u, -, hnext⟩
      · exact .inr ⟨hres, ⟨p, q, rfl⟩, hfault⟩
      · exact .inl ⟨_, hnext⟩
  | fset m =>
    simp only [performEvent, hostStep]
    split <;> exact .inl ⟨_, rfl⟩
  | connected =>
    simp only [performEvent, hostStep]
    split <;> exact .inl ⟨_, rfl⟩
  | connectionError =>
    simp only [performEvent, hostStep]
    split <;> exact .inl ⟨_, rfl⟩
  | rst asserted => cases asserted <;> exact .inl ⟨_, rfl⟩
  | quiet => exact .inl ⟨_, rfl⟩

/-- Taking a move leaves the registers, so the reserved situation is that of the state before. -/
theorem atReserved_takeEvent {s : State} (h : AtReserved (takeEvent s)) : AtReserved s := by
  obtain ⟨l, n, htake⟩ := takeEvent_eq s
  rwa [htake] at h

/-- Every step with legal parameters answers a next state, a tick in the reserved situation excepted. -/
theorem step_answers {s : State} (hc : configLegal s.cfg = true)
    (hn : ∀ p q, nextEvent s = .tick p q → ¬AtReserved s) : ∃ t, step s = .next t := by
  rw [step_eq hc]
  rcases performEvent_outcome (nextEvent s) (takeEvent s) with hnext | ⟨hres, ⟨p, q, htick⟩, -⟩
  · exact hnext
  · exact absurd (atReserved_takeEvent hres) (hn p q htick)

/-- No step with legal parameters is refused. -/
theorem step_ne_refused {s : State} (hc : configLegal s.cfg = true) (r : Refusal) : step s ≠ .refused r := by
  rw [step_eq hc]
  rcases performEvent_outcome (nextEvent s) (takeEvent s) with ⟨t, hnext⟩ | ⟨-, -, hfault⟩
  · rw [hnext]
    exact fun h => nomatch h
  · rw [hfault]
    exact fun h => nomatch h

/-- Settles O57: the parameters are tested before the move is looked at, and no move is refused. -/
theorem illegalConfigurationRefused : Obligations.IllegalConfigurationRefused := by
  intro s
  have hlegal := configLegal_iff s.cfg
  by_cases hc : configLegal s.cfg = true
  · obtain ⟨hpoll, hforced⟩ := hlegal.mp hc
    exact iff_of_false (step_ne_refused hc _) (by omega)
  · refine iff_of_true (if_neg hc) ?_
    rw [hlegal] at hc
    omega

end outcome

section invariant

/-- The registers and parameters the invariant speaks of. -/
def invariantView (s : State) :
    Params × Phase × ClockPhase × Direction × BitVec 4 × Byte × Latch × Latch × Nat × Nat :=
  (s.cfg, s.phase, s.cpf, s.dir, s.bc, s.sr, s.sclOut, s.sdaOut, s.tslp, s.tslfr)

/-- The invariant does not see flags, RB, LRV, CCV, samples, outputs nor the environment's fields. -/
theorem BlockInv.congr {s t : State} (h : BlockInv s) (hview : invariantView t = invariantView s) : BlockInv t := by
  simp only [invariantView, Prod.mk.injEq] at hview
  obtain ⟨hcfg, hphase, hcpf, hdir, hbc, hsr, hscl, hsda, htslp, htslfr⟩ := hview
  constructor <;> simp only [hcfg, hphase, hcpf, hdir, hbc, hsr, hscl, hsda, htslp, htslfr]
  exacts [h.config, h.phase, h.linesFree, h.clockLow, h.clockHigh, h.countRise, h.countFall, h.countElsewhere,
    h.sentFall, h.sentRise, h.receiving, h.acknowledged, h.stopping, h.counters]

/-- The registers as R41 gives them at reset meet the invariant, whatever the unspecified ones hold. -/
theorem blockInv_of_resetValues {s : State} (hc : configLegal s.cfg = true) (hphase : s.phase = 0#3)
    (hbc : s.bc = 0#4) (hscl : s.sclOut = .released) (hsda : s.sdaOut = .released) (htslp : s.tslp = 0)
    (htslfr : s.tslfr = 0) : BlockInv s := by
  obtain ⟨hpoll, hforced⟩ := (configLegal_iff s.cfg).mp hc
  constructor <;> simp [hphase, hbc, hscl, hsda, htslp, htslfr, hc]
  omega

/-- Settles O2: the reset state has the values of R41. -/
theorem resetMeetsInvariant : Obligations.ResetMeetsInvariant :=
  blockInv_of_resetValues (by decide) rfl rfl rfl rfl rfl rfl

/-- No state of the invariant is in the reserved situation: BC is at least 1 at a rising tick. -/
theorem BlockInv.not_atReserved {s : State} (h : BlockInv s) : ¬AtReserved s := by
  rintro ⟨hphase, hcpf, hbc⟩
  have hcount := (h.countRise hphase hcpf).1
  rw [hbc] at hcount
  exact absurd hcount (by decide)

/-- POLL.STEP counts up to the poll interval and to the forced report count, never past them (R202). -/
theorem pollStep_counters {s : State} (hc : configLegal s.cfg = true)
    (h : s.tslp < s.cfg.pollInterval ∧ s.tslfr < s.cfg.forcedCount) :
    (pollStep s).tslp < s.cfg.pollInterval ∧ (pollStep s).tslfr < s.cfg.forcedCount := by
  obtain ⟨hpoll, hforced⟩ := (configLegal_iff s.cfg).mp hc
  unfold pollStep poll
  split
  · split <;> simp only <;> omega
  · simp only
    omega

/-- The Reporter writes nothing the invariant speaks of, the Poll Scheduler only the two counters. -/
theorem BlockInv.afterwards {u : State} (h : BlockInv u) : BlockInv (pollStep (reportIfDone u)) := by
  have hr : BlockInv (reportIfDone u) := h.congr (by simp [invariantView])
  have hcounters := pollStep_counters hr.config hr.counters
  obtain ⟨hconfig, hphase, hfree, hlow, hhigh, hrise, hfall, helse, hsentFall, hsentRise, hreceiving, hack, hstop, -⟩ :=
    hr
  constructor <;> simp only [pollStep_cfg, pollStep_phase, pollStep_cpf, pollStep_dir, pollStep_bc, pollStep_sr,
    pollStep_sclOut, pollStep_sdaOut]
  all_goals assumption

end invariant

end Sys2Proof.Machine

/-! PROOFS. The invariant by phase (10_state.md R43), and that every operation of a tick keeps it. -/

namespace Sys2Proof.Machine

section shapes
variable {s : State} (hconfig : configLegal s.cfg = true)
  (hcounters : s.tslp < s.cfg.pollInterval ∧ s.tslfr < s.cfg.forcedCount)
include hconfig hcounters

/-- R43 (b): in Idle and Start both lines are free. -/
theorem blockInv_of_free (hp : s.phase = 0#3 ∨ s.phase = 1#3) (hscl : s.sclOut = .released)
    (hsda : s.sdaOut = .released) (hbc : s.bc = 0#4) : BlockInv s := by
  rcases hp with hp | hp <;> constructor <;> simp [hp, hscl, hsda, hbc, hconfig, hcounters]

/-- A rising tick of a byte being sent: the bit on SDA has left SR. -/
theorem blockInv_of_sendRise (hp : s.phase = 2#3) (hc : s.cpf = .rise) (hd : s.dir = .tx)
    (hscl : s.sclOut = .drivenLow) (hbc : 1 ≤ s.bc.toNat ∧ s.bc.toNat ≤ 8)
    (hsent : s.sr <<< (s.bc.toNat - 1) = 0#8) : BlockInv s := by
  constructor <;> simp [hp, hc, hd, hscl, hbc, hsent, hconfig, hcounters]

/-- A falling tick of a byte being sent: as many bits are left in SR as BC says. -/
theorem blockInv_of_sendFall (hp : s.phase = 2#3) (hc : s.cpf = .fall) (hd : s.dir = .tx)
    (hscl : s.sclOut = .released) (hbc : s.bc.toNat ≤ 8) (hsent : s.sr <<< s.bc.toNat = 0#8) : BlockInv s := by
  constructor <;> simp [hp, hc, hd, hscl, hbc, hsent, hconfig, hcounters]

/-- A rising tick of a byte being received. -/
theorem blockInv_of_receiveRise (hp : s.phase = 2#3) (hc : s.cpf = .rise) (hd : s.dir = .rx)
    (hscl : s.sclOut = .drivenLow) (hsda : s.sdaOut = .released) (hbc : 1 ≤ s.bc.toNat ∧ s.bc.toNat ≤ 8) :
    BlockInv s := by
  constructor <;> simp [hp, hc, hd, hscl, hsda, hbc, hconfig, hcounters]

/-- A falling tick of a byte being received: at least one bit has been taken. -/
theorem blockInv_of_receiveFall (hp : s.phase = 2#3) (hc : s.cpf = .fall) (hd : s.dir = .rx)
    (hscl : s.sclOut = .released) (hsda : s.sdaOut = .released) (hbc : s.bc.toNat ≤ 7) : BlockInv s := by
  constructor <;> simp [hp, hc, hd, hscl, hsda, hbc, hconfig, hcounters]

/-- Either half of Ack: SDA is the slave's after a byte that was sent. -/
theorem blockInv_of_ack (hp : s.phase = 3#3) (hscl : s.sclOut = if s.cpf = .rise then .drivenLow else .released)
    (hsda : s.dir = .tx → s.sdaOut = .released) (hbc : s.bc = 0#4) : BlockInv s := by
  cases hc : s.cpf <;> rw [hc] at hscl <;> constructor <;> simp [hp, hc, hscl, hbc, hconfig, hcounters] <;>
    exact hsda

/-- Either half of Stop: SDA is low until the STOP condition. -/
theorem blockInv_of_stop (hp : s.phase = 4#3) (hscl : s.sclOut = if s.cpf = .rise then .drivenLow else .released)
    (hsda : s.sdaOut = .drivenLow) (hbc : s.bc = 0#4) : BlockInv s := by
  cases hc : s.cpf <;> rw [hc] at hscl <;> constructor <;> simp [hp, hc, hscl, hsda, hbc, hconfig, hcounters]

end shapes

/-- Sending one bit moves it from the count into the shift. -/
theorem shiftOut_sent {sr : Byte} {n : Nat} (hn : 1 ≤ n) (h : sr <<< n = 0#8) : shiftOut sr <<< (n - 1) = 0#8 := by
  rw [shiftOut, ← BitVec.shiftLeft_add, Nat.add_sub_cancel' hn, h]

theorem one_le_toNat {b : BitVec 4} (h : b ≠ 0#4) : 1 ≤ b.toNat := by
  rw [Nat.one_le_iff_ne_zero]
  exact fun h0 => h (BitVec.eq_of_toNat_eq h0)

/-- Every operation of a tick keeps the invariant: one case per operation, each going to the shape of the phase it
leads to (42_sequencer.md R160). -/
theorem BlockInv.coreTick {s u : State} (h : BlockInv s) (hcore : CoreTick s u) : BlockInv u := by
  have hconfig := h.config
  have hcounters := h.counters
  cases hcore with
  | idleWait hp ht => exact h
  | idleGo hp ht =>
    obtain ⟨hscl, hsda⟩ := h.linesFree (.inl hp)
    exact blockInv_of_free hconfig hcounters (.inr rfl) hscl hsda (h.countElsewhere (by rw [hp]; decide))
  | startRetry hp hq =>
    exact blockInv_of_free hconfig hcounters (.inr hp) rfl rfl (h.countElsewhere (by rw [hp]; decide))
  | startCond hp hq =>
    obtain ⟨hscl, -⟩ := h.linesFree (.inr hp)
    exact blockInv_of_sendFall hconfig hcounters rfl rfl rfl hscl (Nat.le_refl 8)
      (BitVec.shiftLeft_eq_zero (Nat.le_refl 8))
  | xferRiseTx hp hc hd hb =>
    have hcount := (h.countRise hp hc).2
    have hdown := toNat_countDown hb
    refine blockInv_of_sendFall hconfig hcounters hp rfl hd rfl ?_ ?_
    · rw [hdown]
      omega
    · rw [hdown]
      exact h.sentRise hp hd hc
  | xferRiseRx hp hc hd hb =>
    have hcount := (h.countRise hp hc).2
    refine blockInv_of_receiveFall hconfig hcounters hp rfl hd rfl (h.receiving hp hd) ?_
    rw [toNat_countDown hb]
    omega
  | xferFallTxbit hp hc hd hb =>
    have hcount := h.countFall hp hc
    rw [if_pos hd] at hcount
    exact blockInv_of_sendRise hconfig hcounters hp rfl hd rfl ⟨one_le_toNat hb, hcount⟩
      (shiftOut_sent (one_le_toNat hb) (h.sentFall hp hd hc))
  | xferFallTxend hp hc hd hb => exact blockInv_of_ack hconfig hcounters rfl rfl (fun _ => rfl) hb
  | xferFallRxhold hp hc hd hb =>
    have hcount := h.countFall hp hc
    rw [if_neg (by rw [hd]; decide)] at hcount
    exact blockInv_of_receiveRise hconfig hcounters hp rfl hd rfl (h.receiving hp hd)
      ⟨one_le_toNat hb, Nat.le_succ_of_le hcount⟩
  | xferFallRxack hp hc hd hb hf =>
    exact blockInv_of_ack hconfig hcounters rfl rfl (fun htx => absurd (hd.symm.trans htx) (by decide)) hb
  | xferFallRxnack hp hc hd hb hf => exact blockInv_of_ack hconfig hcounters rfl rfl (fun _ => rfl) hb
  | ackRiseTx hp hc hd =>
    exact blockInv_of_ack hconfig hcounters hp rfl (h.acknowledged hp) (h.countElsewhere (by rw [hp]; decide))
  | ackRiseRx0 hp hc hd hf =>
    exact blockInv_of_ack hconfig hcounters hp rfl (h.acknowledged hp) (h.countElsewhere (by rw [hp]; decide))
  | ackRiseRx1 hp hc hd hf =>
    exact blockInv_of_ack hconfig hcounters hp rfl (h.acknowledged hp) (h.countElsewhere (by rw [hp]; decide))
  | ackFallTurn hp hc hd =>
    exact blockInv_of_receiveRise hconfig hcounters rfl rfl rfl rfl (h.acknowledged hp hd)
      ⟨Nat.le_add_left 1 7, Nat.le_refl 8⟩
  | ackFallNext hp hc hd hf =>
    exact blockInv_of_receiveRise hconfig hcounters rfl rfl hd rfl rfl ⟨Nat.le_add_left 1 7, Nat.le_refl 8⟩
  | ackFallLast hp hc hd hf =>
    exact blockInv_of_stop hconfig hcounters rfl rfl rfl (h.countElsewhere (by rw [hp]; decide))
  | stopScl hp hc =>
    exact blockInv_of_stop hconfig hcounters hp rfl (h.stopping hp) (h.countElsewhere (by rw [hp]; decide))
  | stopSda hp hc =>
    exact blockInv_of_free hconfig hcounters (.inl rfl) (h.clockHigh (.inr (.inr hp)) hc) rfl
      (h.countElsewhere (by rw [hp]; decide))
  | faultRecover hp => exact absurd h.phase (by omega)

/-- Settles O3: outside the reserved situation the step answers; a tick keeps the invariant through its operation and
the blocks after it, a reset puts the values of R41, and every other move writes nothing the invariant sees. -/
theorem stepKeepsInvariant : Obligations.StepKeepsInvariant := by
  intro s h
  obtain ⟨t, hstep⟩ := step_answers h.config (fun _ _ _ => h.not_atReserved)
  refine ⟨t, hstep, ?_⟩
  obtain ⟨l, n, hcases⟩ := step_next_cases hstep
  rcases hcases with ⟨p, q, -, htick⟩ | ⟨m, -, hfset⟩ | ⟨-, hconn⟩ | ⟨-, rfl⟩ | ⟨-, rfl⟩ | ⟨-, rfl⟩
  · obtain ⟨-, rfl⟩ | ⟨-, u, hcore, rfl⟩ := htick
    · exact h.congr rfl
    · have hstart : BlockInv { tickStart p q l s with draws := n } := h.congr rfl
      exact (hstart.coreTick hcore).afterwards
  · obtain rfl | rfl := hfset <;> exact h.congr rfl
  · obtain rfl | rfl := hconn <;> exact h.congr rfl
  · exact blockInv_of_resetValues h.config rfl rfl rfl rfl rfl rfl
  · exact h.congr rfl
  · exact h.congr rfl

end Sys2Proof.Machine

/-! PROOFS. The operation map as a partition of the select words (30_encoding.md R95 to R97), the select word's fields
(R94), and the encoder against the decoder. -/

namespace Sys2Proof.Machine

section map

/-- Every word selects a row (R97). -/
theorem operationMap_covers (w : Osw) : ∃ r ∈ operationMap, r.selects w = true := by
  have hany : ∀ w : Osw, operationMap.any (fun r => r.selects w) = true := by
    decide
  exact List.any_eq_true.mp (hany w)

/-- The decoder answers the operation of a row the word selects. -/
theorem decodeOsw_selected (w : Osw) : ∃ r ∈ operationMap, w &&& r.mask = r.pat ∧ decodeOsw w = r.instr := by
  unfold decodeOsw
  split
  next r hfind =>
    have hselects := List.find?_some hfind
    exact ⟨r, List.mem_of_find?_eq_some hfind, beq_iff_eq.mp hselects, rfl⟩
  next hnone =>
    obtain ⟨r, hr, hselects⟩ := operationMap_covers w
    exact absurd hselects (List.find?_eq_none.mp hnone r hr)

/-- A word decodes to a row's operation exactly where it selects the row, the reserved row included. -/
theorem decodeOsw_eq_rowInstr_iff {r : MapRow} (hr : r ∈ operationMap) (w : Osw) :
    decodeOsw w = r.instr ↔ w &&& r.mask = r.pat := by
  obtain ⟨r', hr', hw', hdecode⟩ := decodeOsw_selected w
  rw [hdecode]
  constructor
  · intro h
    rwa [← List.inj_on_of_nodup_map operationMap_instrs_nodup hr' hr h]
  · intro h
    rw [operationMap_rows_disjoint r' hr' r hr (MapRow.pat_agree hw' h)]

/-- Settles O5: the rows cover the words, and no word selects two of them. -/
theorem mapCoversOnce : Obligations.MapCoversOnce :=
  ⟨operationMap_covers, fun _ hr => decodeOsw_eq_rowInstr_iff hr⟩

end map

section fields

/-- The fields of a word, read at the bits of R94. -/
theorem wordOf_fields (ph : Phase) (cp : ClockPhase) (dr : Direction) (bcz fb tq qt : Bool) :
    (wordOf ph cp dr bcz fb tq qt).extractLsb' 6 3 = ph ∧
      (wordOf ph cp dr bcz fb tq qt).getLsbD 5 = decide (cp = .fall) ∧
      (wordOf ph cp dr bcz fb tq qt).getLsbD 4 = decide (dr = .rx) ∧
      (wordOf ph cp dr bcz fb tq qt).getLsbD 3 = bcz ∧ (wordOf ph cp dr bcz fb tq qt).getLsbD 2 = fb ∧
      (wordOf ph cp dr bcz fb tq qt).getLsbD 1 = tq ∧ (wordOf ph cp dr bcz fb tq qt).getLsbD 0 = qt := by
  cases cp <;> cases dr <;> revert ph bcz fb tq qt <;> decide

/-- Settles O4: the assembled word is the word of the state's seven fields. -/
theorem oswFields : Obligations.OswFields := by
  intro s
  obtain ⟨hph, hcp, hdr, hbcz, hfb, htq, hqt⟩ :=
    wordOf_fields s.phase s.cpf s.dir (bitCountZero s) (fbe s.flags) (treq s.flags) (quiet s)
  rw [osw_eq_wordOf, hph, hcp, hdr, hbcz, hfb, htq, hqt, decide_eq_true_iff, decide_eq_true_iff, bitCountZero_iff,
    quiet_iff]
  exact ⟨rfl, Iff.rfl, Iff.rfl, Iff.rfl, Iff.rfl, Iff.rfl, Iff.rfl⟩

end fields

section encoder

/-- The two bytes of a format T word are read back, the low byte first. -/
theorem decodeBytes_lowFirst (w : Osw) :
    decodeBytes [w.setWidth 8, (w >>> 8).setWidth 8] = .ok (decodeOsw w) := by
  have hhigh : ((w >>> 8).setWidth 8).toNat < 2 := by
    revert w
    decide
  have hjoin : ((w >>> 8).setWidth 8 ++ w.setWidth 8).setWidth 9 = w := by
    clear hhigh
    revert w
    decide
  rw [decodeBytes, if_pos hhigh, hjoin]

/-- The bytes of a table word of format T are the encoder's. -/
theorem tableBytes_sixteen (w : Osw) : tableBytes 16 w.toNat = [w.setWidth 8, (w >>> 8).setWidth 8] := by
  revert w
  decide

/-- A table word of format T decodes as its nine bits do. -/
theorem decodeTableWord_sixteen (w : Osw) : decodeTableWord 16 w.toNat = some (decodeOsw w) := by
  have hbound : w.toNat < 2 ^ 16 := lt_trans w.isLt (by decide)
  have hwidth : ¬(16 ≤ 8) := by decide
  rw [decodeTableWord, if_neg hwidth, if_pos hbound, tableBytes_sixteen, decodeBytes_lowFirst]

/-- The word of an operation of the map selects the operation's own row. -/
theorem decodeOsw_word {i : Instr} (hw : i.wellFormed = true) (hh : i.isHostWord = false) :
    decodeOsw i.word = i := by
  cases i
  case reserved => cases hw
  case fset m => cases hh
  all_goals decide

/-- Settles O7: FSET by its four bits, every other operation by the nine bits of its row. -/
theorem decodeInvertsEncode : Obligations.DecodeInvertsEncode := by
  intro i hw
  rcases hh : i.isHostWord with _ | _
  · have hformat : (if i.isHostWord then 8 else 16) = 16 := by rw [hh]; rfl
    have hencode : encode i = [i.word.setWidth 8, (i.word >>> 8).setWidth 8] := by rw [encode, hh]; rfl
    rw [← hh, hformat, hencode, decodeBytes_lowFirst, decodeTableWord_sixteen, decodeOsw_word hw hh]
    exact ⟨rfl, rfl⟩
  · cases i
    case fset m =>
      revert m
      decide
    all_goals cases hh

/-- Settles O6: nine closed words, each evaluated by the decoder. -/
theorem wordsDecode : Obligations.WordsDecode := by
  unfold Obligations.WordsDecode
  decide

end encoder

end Sys2Proof.Machine

/-! PROOFS. The rows of the operation map: the words and the states that select each operation, and its effect
(42_sequencer.md, 41_bit_engine.md, 30_encoding.md R96, R97). -/

namespace Sys2Proof.Machine

section selection

/-- The fields that select an operation, row by row (R96, R97). -/
def selectedBy (i : Instr) (ph : Phase) (cp : ClockPhase) (dr : Direction) (bcz fb tq qt : Bool) : Bool :=
  match i with
  | .idleWait => decide (ph = 0#3) && !tq
  | .idleGo => decide (ph = 0#3) && tq
  | .startRetry => decide (ph = 1#3) && !qt
  | .startCond => decide (ph = 1#3) && qt
  | .xferRiseTx => decide (ph = 2#3 ∧ cp = .rise ∧ dr = .tx) && !bcz
  | .xferRiseRx => decide (ph = 2#3 ∧ cp = .rise ∧ dr = .rx) && !bcz
  | .xferFallTxbit => decide (ph = 2#3 ∧ cp = .fall ∧ dr = .tx) && !bcz
  | .xferFallTxend => decide (ph = 2#3 ∧ cp = .fall ∧ dr = .tx) && bcz
  | .xferFallRxhold => decide (ph = 2#3 ∧ cp = .fall ∧ dr = .rx) && !bcz
  | .xferFallRxack => decide (ph = 2#3 ∧ cp = .fall ∧ dr = .rx) && bcz && fb
  | .xferFallRxnack => decide (ph = 2#3 ∧ cp = .fall ∧ dr = .rx) && bcz && !fb
  | .ackRiseTx => decide (ph = 3#3 ∧ cp = .rise ∧ dr = .tx)
  | .ackRiseRx0 => decide (ph = 3#3 ∧ cp = .rise ∧ dr = .rx) && fb
  | .ackRiseRx1 => decide (ph = 3#3 ∧ cp = .rise ∧ dr = .rx) && !fb
  | .ackFallTurn => decide (ph = 3#3 ∧ cp = .fall ∧ dr = .tx)
  | .ackFallNext => decide (ph = 3#3 ∧ cp = .fall ∧ dr = .rx) && fb
  | .ackFallLast => decide (ph = 3#3 ∧ cp = .fall ∧ dr = .rx) && !fb
  | .stopScl => decide (ph = 4#3 ∧ cp = .rise)
  | .stopSda => decide (ph = 4#3 ∧ cp = .fall)
  | .faultRecover5 => decide (ph = 5#3)
  | .faultRecover67 => decide (6 ≤ ph.toNat)
  | .reserved => decide (ph = 2#3 ∧ cp = .rise) && bcz
  | .fset _ => false

/-- Every tick performs an operation that its fields select. -/
theorem selectedBy_operationOf (ph : Phase) (cp : ClockPhase) (dr : Direction) (bcz fb tq qt : Bool) :
    selectedBy (operationOf ph cp dr bcz fb tq qt) ph cp dr bcz fb tq qt = true := by
  cases cp <;> cases dr <;> revert ph bcz fb tq qt <;> decide

/-- The fields of an operation lead the map to it. -/
theorem operationOf_of_selectedBy {i : Instr} {ph : Phase} {cp : ClockPhase} {dr : Direction} {bcz fb tq qt : Bool}
    (h : selectedBy i ph cp dr bcz fb tq qt = true) : operationOf ph cp dr bcz fb tq qt = i := by
  cases i
  all_goals
    simp only [selectedBy, Bool.and_eq_true, decide_eq_true_iff, Bool.not_eq_true', Bool.false_eq_true] at h
  case faultRecover67 =>
    have hne (c : Phase) (hc : c.toNat < 6) : ph ≠ c := by
      rintro rfl
      omega
    simp [operationOf, hne]
  case reserved => cases dr <;> simp [operationOf, h]
  all_goals simp [operationOf, h]

/-- What selects a row: a word by its mask and pattern, a state by its fields. -/
theorem row_selected {i : Instr} {mask pat : Osw} (hrow : ⟨i, mask, pat⟩ ∈ operationMap) :
    (∀ w : Osw, decodeOsw w = i ↔ w &&& mask = pat) ∧
      ∀ s : State, decodeOsw (osw s) = i ↔
        selectedBy i s.phase s.cpf s.dir (bitCountZero s) (fbe s.flags) (treq s.flags) (quiet s) = true := by
  refine ⟨decodeOsw_eq_rowInstr_iff hrow, fun s => ?_⟩
  rw [decodeOsw_osw]
  exact ⟨fun h => h ▸ selectedBy_operationOf .., operationOf_of_selectedBy⟩

end selection

section idleStart

/-- The address byte as the number START.COND loads (R91, R165). -/
theorem addressByte_eq_ofNat (a : BitVec 7) (f : FlagWord) :
    addressByte a f = BitVec.ofNat 8 (2 * a.toNat + (if f.getLsbD 2 then 0 else 1)) := by
  rw [← addressByte_toNat, BitVec.ofNat_toNat, BitVec.setWidth_eq]

/-- Settles O10. -/
theorem idleGoEffect : Obligations.IdleGoEffect := by
  obtain ⟨hword, hstate⟩ := row_selected (i := .idleGo) (mask := 0x1C2#9) (pat := 0x002#9) (by decide)
  refine ⟨hword, fun s => ?_, fun s => rfl⟩
  simp [hstate, selectedBy, treq]

/-- Settles O11: both releases, SCL first, whatever was sampled low. -/
theorem startRetryEffect : Obligations.StartRetryEffect := by
  obtain ⟨hword, hstate⟩ := row_selected (i := .startRetry) (mask := 0x1C1#9) (pat := 0x040#9) (by decide)
  refine ⟨hword, fun s => ?_, fun s => congrArg Host.Outcome.next ?_⟩
  · rw [hstate, selectedBy, Bool.and_eq_true, decide_eq_true_iff, Bool.not_eq_true', Bool.eq_false_iff, ne_eq,
      quiet_iff]
  · rw [release_sda, release_scl, ← append_two]

/-- Settles O12: the byte loaded is the address byte as a number. -/
theorem startCondEffect : Obligations.StartCondEffect := by
  obtain ⟨hword, hstate⟩ := row_selected (i := .startCond) (mask := 0x1C1#9) (pat := 0x041#9) (by decide)
  refine ⟨hword, fun s => ?_, fun s => congrArg Host.Outcome.next ?_⟩
  · simp [hstate, selectedBy, quiet]
  · rw [← addressByte_eq_ofNat]
    rfl

end idleStart

section engine

/-- `BC - 1` on the numbers, where it is allowed. -/
theorem countDown_eq_ofNat {b : BitVec 4} (h : b ≠ 0#4) : b - 1#4 = BitVec.ofNat 4 (b.toNat - 1) := by
  rw [← toNat_countDown h, BitVec.ofNat_toNat, BitVec.setWidth_eq]

/-- `trunc_8((SR << 1) | zext_8(sda_in))` (R143) on the numbers. -/
theorem shiftIn_eq_ofNat (sr : Byte) (v : Level) :
    shiftIn sr v = BitVec.ofNat 8 (2 * sr.toNat + (if v = .high then 1 else 0)) := by
  revert sr
  cases v <;> decide

/-- Both rising operations of the engine stop where there is no bit left to count (decision D14). -/
theorem countBit_at_zero {s : State} (h : s.bc = 0#4) : countBit s = .fault .reservedOperation :=
  if_pos h

/-- Settles O13. -/
theorem xferRiseTxEffect : Obligations.XferRiseTxEffect := by
  obtain ⟨hword, hstate⟩ := row_selected (i := .xferRiseTx) (mask := 0x1F8#9) (pat := 0x080#9) (by decide)
  refine ⟨hword, fun s => ?_, fun s hb => ?_⟩
  · simp [hstate, selectedBy, bitCountZero, and_assoc]
  · rw [← countDown_eq_ofNat hb]
    exact countBit_of_ne (s := risingHalf s) hb

/-- Settles O14. -/
theorem xferRiseRxEffect : Obligations.XferRiseRxEffect := by
  obtain ⟨hword, hstate⟩ := row_selected (i := .xferRiseRx) (mask := 0x1F8#9) (pat := 0x090#9) (by decide)
  refine ⟨hword, fun s => ?_, fun s hb => ?_⟩
  · simp [hstate, selectedBy, bitCountZero, and_assoc]
  · rw [← countDown_eq_ofNat hb, ← shiftIn_eq_ofNat]
    exact countBit_of_ne (s := (risingHalf s).setSr (shiftIn s.sr s.sdaIn)) hb

/-- Settles O18: the acknowledge goes on SDA after SCL is low. -/
theorem xferFallAcknowledge : Obligations.XferFallAcknowledge := by
  obtain ⟨hwordAck, hstateAck⟩ := row_selected (i := .xferFallRxack) (mask := 0x1FC#9) (pat := 0x0BC#9) (by decide)
  obtain ⟨hwordNack, hstateNack⟩ := row_selected (i := .xferFallRxnack) (mask := 0x1FC#9) (pat := 0x0B8#9) (by decide)
  refine ⟨hwordAck, fun s => ?_, hwordNack, fun s => ?_, fun s => congrArg Host.Outcome.next ?_,
    fun s => congrArg Host.Outcome.next ?_⟩
  · simp [hstateAck, selectedBy, bitCountZero, fbe, and_assoc]
  · simp [hstateNack, selectedBy, bitCountZero, fbe, and_assoc]
  · rw [driveLow_sda, fallingHalf_eq, ← append_two]
    rfl
  · rw [release_sda, fallingHalf_eq, ← append_two]
    rfl

/-- Settles O26: the reserved row's meaning is the fault, and the count at 0 is the same fault. -/
theorem reservedFaults : Obligations.ReservedFaults := by
  obtain ⟨hword, hstate⟩ := row_selected (i := .reserved) (mask := 0x1E8#9) (pat := 0x088#9) (by decide)
  refine ⟨hword, fun s => ?_, fun s => rfl, fun s hb => ⟨?_, ?_⟩⟩
  · simp [hstate, selectedBy, bitCountZero, and_assoc]
  · exact countBit_at_zero (s := risingHalf s) hb
  · exact countBit_at_zero (s := (risingHalf s).setSr (shiftIn s.sr s.sdaIn)) hb

end engine

section ack

/-- The record of the acknowledge: 0x00 for ACK, 0x01 for NACK (R168). -/
theorem acknowledgeRecord_eq (v : Level) : acknowledgeRecord v = if v = .high then 0x01#8 else 0x00#8 := by
  cases v <;> rfl

/-- Settles O19. -/
theorem ackRiseTxEffect : Obligations.AckRiseTxEffect := by
  obtain ⟨hword, hstate⟩ := row_selected (i := .ackRiseTx) (mask := 0x1F0#9) (pat := 0x0C0#9) (by decide)
  refine ⟨hword, fun s => ?_, fun s => congrArg Host.Outcome.next ?_⟩
  · simp [hstate, selectedBy]
  · rw [← acknowledgeRecord_eq]
    rfl

/-- Settles O20. -/
theorem ackRiseStores : Obligations.AckRiseStores := by
  obtain ⟨hwordRx0, hstateRx0⟩ := row_selected (i := .ackRiseRx0) (mask := 0x1F4#9) (pat := 0x0D4#9) (by decide)
  obtain ⟨hwordRx1, hstateRx1⟩ := row_selected (i := .ackRiseRx1) (mask := 0x1F4#9) (pat := 0x0D0#9) (by decide)
  refine ⟨hwordRx0, fun s => ?_, hwordRx1, fun s => ?_, fun s => rfl, fun s => rfl⟩
  · simp [hstateRx0, selectedBy, fbe, and_assoc]
  · simp [hstateRx1, selectedBy, fbe, and_assoc]

/-- Settles O21. -/
theorem ackFallTurnEffect : Obligations.AckFallTurnEffect := by
  obtain ⟨hword, hstate⟩ := row_selected (i := .ackFallTurn) (mask := 0x1F0#9) (pat := 0x0E0#9) (by decide)
  refine ⟨hword, fun s => ?_, fun s => congrArg Host.Outcome.next ?_⟩
  · simp [hstate, selectedBy]
  · rw [beginByte_eq, fallingHalf_eq, clearTreq]
    rfl

/-- Settles O22. -/
theorem ackFallNextEffect : Obligations.AckFallNextEffect := by
  obtain ⟨hword, hstate⟩ := row_selected (i := .ackFallNext) (mask := 0x1F4#9) (pat := 0x0F4#9) (by decide)
  refine ⟨hword, fun s => ?_, fun s => congrArg Host.Outcome.next ?_⟩
  · simp [hstate, selectedBy, fbe, and_assoc]
  · rw [beginByte_eq, release_sda, fallingHalf_eq, clearFbe, ← append_two]
    rfl

/-- Settles O23. -/
theorem ackFallLastEffect : Obligations.AckFallLastEffect := by
  obtain ⟨hword, hstate⟩ := row_selected (i := .ackFallLast) (mask := 0x1F4#9) (pat := 0x0F0#9) (by decide)
  refine ⟨hword, fun s => ?_, fun s => congrArg Host.Outcome.next ?_⟩
  · simp [hstate, selectedBy, fbe, and_assoc]
  · rw [driveLow_sda, fallingHalf_eq, ← append_two]
    rfl

end ack

section stop

/-- Settles O24. -/
theorem stopEffect : Obligations.StopEffect := by
  obtain ⟨hwordScl, hstateScl⟩ := row_selected (i := .stopScl) (mask := 0x1E0#9) (pat := 0x100#9) (by decide)
  obtain ⟨hwordSda, hstateSda⟩ := row_selected (i := .stopSda) (mask := 0x1E0#9) (pat := 0x120#9) (by decide)
  refine ⟨hwordScl, fun s => ?_, hwordSda, fun s => ?_, fun s => rfl, fun s => rfl⟩
  · simp [hstateScl, selectedBy]
  · simp [hstateSda, selectedBy]

/-- Settles O25: both rows have the one effect of R183. -/
theorem faultRecoverEffect : Obligations.FaultRecoverEffect := by
  obtain ⟨hword5, hstate5⟩ := row_selected (i := .faultRecover5) (mask := 0x1C0#9) (pat := 0x140#9) (by decide)
  obtain ⟨hword67, hstate67⟩ := row_selected (i := .faultRecover67) (mask := 0x180#9) (pat := 0x180#9) (by decide)
  refine ⟨hword5, fun s => ?_, hword67, fun s => ?_, fun s => rfl, fun s => rfl⟩
  · simp [hstate5, selectedBy]
  · simp [hstate67, selectedBy]

end stop

end Sys2Proof.Machine

/-! PROOFS. The moves of the environment one by one: a tick (42_sequencer.md R184), the host's FSET and the
connection events (45_host_interface.md), and the reset input (70_reset_and_hazards.md R290 to R292). -/

namespace Sys2Proof.Machine

/-- Settles O1: every value is the one State.reset writes. -/
theorem resetValues : Obligations.ResetValues :=
  ⟨rfl, rfl, rfl, rfl, rfl, rfl, rfl, rfl, rfl, rfl, rfl, rfl⟩

/-- A move that waits is the one performed, once it has been seen whether it reaches the block. -/
theorem step_of_inbox_cons {s : State} {e : EnvEvent} {rest : List EnvEvent} (hc : configLegal s.cfg = true)
    (hi : s.inbox = e :: rest) : step s = performEvent (deliverable s.armed e) { s with inbox := rest } := by
  rw [step_eq hc]
  simp only [nextEvent, pendingEvent, takeEvent, hi]

section tick

theorem senseLevel_eq_ite (out : Latch) (peer : Level) :
    senseLevel out peer = if out = .released then peer else .low := by
  cases out <;> rfl

/-- A tick runs the operation its word selects, then steps 4 and 5 (R184). -/
theorem step_eq_afterOperation {s : State} {p q : Level} {rest : List EnvEvent} (hc : configLegal s.cfg = true)
    (hr : s.rstHeld = false) (ha : s.armed = true) (hi : s.inbox = .tick p q :: rest) :
    step s = afterOperation (exec (decodeOsw (osw (tickStart p q rest s))) (tickStart p q rest s)) := by
  rw [step_tick hc hr ha hi, decodeOsw_osw]
  rfl

/-- Settles O8: the state the operation runs in is `tickStart`, with the open-drain law written out. -/
theorem stepRunsDecoded : Obligations.StepRunsDecoded := by
  intro s p q rest hc hr ha hi u hu
  have hstart : u = tickStart p q rest s := by
    rw [hu, tickStart, senseLevel_eq_ite, senseLevel_eq_ite]
  have hstep := step_eq_afterOperation hc hr ha hi
  rw [← hstart] at hstep
  refine ⟨fun t ht => ?_, fun f hf => ?_⟩
  · rw [hstep, ht]
    rfl
  · rw [hstep, hf]
    rfl

end tick

section host

/-- While rst is asserted no FSET is accepted (R290). -/
theorem hostStep_of_held {s : State} (m : FlagWord) (h : s.rstHeld = true) : hostStep m s = .next s :=
  if_pos h

theorem hostStep_of_free {s : State} (m : FlagWord) (h : s.rstHeld = false) :
    hostStep m s = .next { s with flags := s.flags ||| m } :=
  if_neg (Bool.eq_false_iff.mp h)

/-- Settles O27: the host's word is decoded to FSET and performed on the state with its outputs cleared. -/
theorem fsetEffect : Obligations.FsetEffect := by
  refine ⟨fun m s => rfl, fun m s rest hc hr hi => ?_⟩
  rw [step_of_inbox_cons hc hi]
  exact hostStep_of_free m hr

/-- Settles O54: each connection event is its FSET, "connected" on the armed state. -/
theorem connectionEvents : Obligations.ConnectionEvents := by
  refine fun s rest hc hr => ⟨fun hi => ?_, fun hi => ?_⟩
  · rw [step_of_inbox_cons hc hi]
    exact hostStep_of_free connectedWord hr
  · rw [step_of_inbox_cons hc hi]
    exact hostStep_of_free connectionErrorWord hr

end host

section reset

/-- Settles O52. -/
theorem resetInput : Obligations.ResetInput := by
  refine fun s rest hc => ⟨fun hi => ?_, fun hi => ?_⟩
  · rw [step_of_inbox_cons hc hi]
    rfl
  · rw [step_of_inbox_cons hc hi]
    rfl

/-- A tick that waits while rst is asserted is only taken, whether or not the source is armed. -/
theorem step_tick_of_held {s : State} {p q : Level} {rest : List EnvEvent} (hc : configLegal s.cfg = true)
    (hr : s.rstHeld = true) (hi : s.inbox = .tick p q :: rest) :
    step s = .next { s with inbox := rest, cmds := [], done := none, published := none } := by
  rw [step_of_inbox_cons hc hi, deliverable]
  split
  · exact if_pos hr
  · rfl

/-- Settles O53: a tick and every host step test rst before they do anything. -/
theorem heldInReset : Obligations.HeldInReset := by
  refine fun s e rest hc hr hi => ⟨?_, ?_⟩
  · rintro (⟨p, q, rfl⟩ | ⟨m, rfl⟩ | rfl | rfl)
    · exact step_tick_of_held hc hr hi
    · rw [step_of_inbox_cons hc hi]
      exact hostStep_of_held m hr
    · rw [step_of_inbox_cons hc hi]
      exact hostStep_of_held connectionErrorWord hr
    · rw [step_of_inbox_cons hc hi]
      rfl
  · rintro rfl
    rw [step_of_inbox_cons hc hi]
    exact hostStep_of_held connectedWord hr

end reset

section beforeConnected

/-- A tick that waits while its source is not armed is passed over (R232). -/
theorem step_tick_of_not_armed {s : State} {p q : Level} {rest : List EnvEvent} (hc : configLegal s.cfg = true)
    (ha : s.armed = false) (hi : s.inbox = .tick p q :: rest) :
    step s = .next { s with inbox := rest, cmds := [], done := none, published := none } := by
  rw [step_of_inbox_cons hc hi, ha]
  rfl

/-- Settles O55: a tick that reaches the block would find its source armed, and no other move but a reset writes CORE,
the lines or the counters. -/
theorem noTickBeforeConnected : Obligations.NoTickBeforeConnected := by
  intro s hc ha
  have hnoTick (p q : Level) : nextEvent s ≠ .tick p q := fun h =>
    absurd ((armed_of_nextEvent_tick h).symm.trans ha) (by decide)
  refine ⟨hnoTick, fun p q rest hi => step_tick_of_not_armed hc ha hi, ?_⟩
  obtain ⟨t, hstep⟩ := step_answers hc (fun p q h => absurd h (hnoTick p q))
  refine ⟨t, hstep, ?_⟩
  obtain ⟨l, n, hcases⟩ := step_next_cases hstep
  rcases hcases with ⟨p, q, htick, -⟩ | ⟨m, -, hfset⟩ | ⟨-, hconn⟩ | ⟨hreset, -⟩ | ⟨-, rfl⟩ | ⟨-, rfl⟩
  · exact absurd htick (hnoTick p q)
  · obtain rfl | rfl := hfset <;> exact .inr ⟨rfl, rfl, rfl, rfl, rfl, rfl, rfl, rfl, rfl, rfl, rfl, rfl, rfl⟩
  · obtain rfl | rfl := hconn <;> exact .inr ⟨rfl, rfl, rfl, rfl, rfl, rfl, rfl, rfl, rfl, rfl, rfl, rfl, rfl⟩
  · exact .inl hreset
  · exact .inr ⟨rfl, rfl, rfl, rfl, rfl, rfl, rfl, rfl, rfl, rfl, rfl, rfl, rfl⟩
  · exact .inr ⟨rfl, rfl, rfl, rfl, rfl, rfl, rfl, rfl, rfl, rfl, rfl, rfl, rfl⟩

end beforeConnected

end Sys2Proof.Machine

/-! PROOFS. What one tick reads and writes: PHASE (42_sequencer.md R160), the flags (20_memory.md R76), the registers
(10_state.md R24), the lines (40_line_driver.md R123 to R128) and `done` (42_sequencer.md R181). -/

namespace Sys2Proof.Machine

/-- A tick that is next and answers has performed a case of `CoreTick`, and steps 4 and 5 after it. -/
theorem TickNext.step_next {s t : State} {p q : Level} (h : TickNext s p q) (hstep : step s = .next t) :
    ∃ rest u, CoreTick (tickStart p q rest s) u ∧ t = pollStep (reportIfDone u) := by
  obtain ⟨hc, hr, ha, rest, hi⟩ := h
  rcases step_tick_cases hc hr ha hi with ⟨-, hfault⟩ | ⟨-, u, hcore, hnext⟩
  · exact nomatch hstep.symm.trans hfault
  · exact ⟨rest, u, hcore, Host.Outcome.next.inj (hstep.symm.trans hnext)⟩

section phase

/-- The transition table (R160), read as a function of the state with its samples. -/
def nextPhase (s : State) : Phase :=
  if s.phase = 0#3 then (if treq s.flags then 1#3 else 0#3)
  else if s.phase = 1#3 then (if s.sclIn = .high ∧ s.sdaIn = .high then 2#3 else 1#3)
  else if s.phase = 2#3 then (if s.cpf = .fall ∧ s.bc = 0#4 then 3#3 else 2#3)
  else if s.phase = 3#3 then
    if s.cpf = .rise then 3#3 else if s.dir = .tx ∨ fbe s.flags = true then 2#3 else 4#3
  else if s.phase = 4#3 ∧ s.cpf = .fall then 0#3
  else 4#3

/-- Every operation moves PHASE by the table. -/
theorem CoreTick.phase_eq {s u : State} (h : CoreTick s u) : u.phase = nextPhase s := by
  cases h
  case faultRecover hp =>
    have hne (c : Phase) (hlt : c.toNat < 5) : s.phase ≠ c := by
      rintro rfl
      omega
    simp [nextPhase, hne]
  all_goals simp [nextPhase, *]

/-- The table leads to the five recognised phases only. -/
theorem nextPhase_le (s : State) : (nextPhase s).toNat ≤ 4 := by
  unfold nextPhase
  split_ifs <;> decide

/-- The wired-AND reads high exactly where neither side drives the line low (R123). -/
theorem senseLevel_eq_high_iff (out : Latch) (peer : Level) :
    senseLevel out peer = .high ↔ out = .released ∧ peer = .high := by
  cases out <;> simp

/-- Settles O28: outside the reserved situation the phase of the answer is the table's. -/
theorem phaseTransitions : Obligations.PhaseTransitions := by
  rintro s p q ⟨hc, hr, ha, rest, hi⟩
  rcases step_tick_cases hc hr ha hi with ⟨hres, hfault⟩ | ⟨hres, u, hcore, hnext⟩
  · exact ⟨fun _ => hfault, fun h => absurd hres h⟩
  · refine ⟨fun h => absurd h hres, fun _ => ⟨_, hnext, ?_⟩⟩
    rw [pollStep_phase, reportIfDone_phase, hcore.phase_eq]
    have hquiet := senseLevel_eq_high_iff
    refine ⟨?_, ?_, ?_, ?_, ?_, ?_, ?_, ?_, ?_, ?_⟩
    case refine_10 =>
      intro hp
      have hne (c : Phase) (hlt : c.toNat < 5) : s.phase ≠ c := by
        rintro rfl
        omega
      simp [nextPhase, tickStart, hne]
    all_goals
      intros
      simp [nextPhase, tickStart, treq, fbe, and_assoc, *]

/-- Settles O29: a tick ends in a phase of the table, a reset in Idle, and no other move writes PHASE. -/
theorem phaseWriters : Obligations.PhaseWriters := by
  intro s t hstep hne
  obtain ⟨l, n, hcases⟩ := step_next_cases hstep
  rcases hcases with ⟨p, q, hev, htick⟩ | ⟨m, -, hfset⟩ | ⟨-, hconn⟩ | ⟨hev, rfl⟩ | ⟨-, rfl⟩ | ⟨-, rfl⟩
  · obtain ⟨-, rfl⟩ | ⟨hr, u, hcore, rfl⟩ := htick
    · exact absurd rfl hne
    · refine ⟨?_, .inr ⟨hr, p, q, hev⟩⟩
      rw [pollStep_phase, reportIfDone_phase, hcore.phase_eq]
      exact nextPhase_le _
  · obtain rfl | rfl := hfset <;> exact absurd rfl hne
  · obtain rfl | rfl := hconn <;> exact absurd rfl hne
  · exact ⟨Nat.zero_le 4, .inl hev⟩
  · exact absurd rfl hne
  · exact absurd rfl hne

end phase

section done

/-- Only STOP.SDA raises `done`, with the pair as it finds it (R181, R182). -/
theorem CoreTick.done_eq {s u : State} (h : CoreTick s u) (h0 : s.done = none) :
    u.done = if s.phase = 4#3 ∧ s.cpf = .fall then some (s.rb0, s.rb1) else none := by
  cases h
  case faultRecover hp =>
    have hne : s.phase ≠ 4#3 := fun h4 => by
      rw [h4] at hp
      exact absurd hp (by decide)
    simp [h0, hne]
  all_goals simp [*]

/-- Settles O51: `done` is the operation's, and the moves that are no tick clear it. -/
theorem doneOnlyAtStop : Obligations.DoneOnlyAtStop := by
  intro s t hstep
  obtain ⟨l, n, hcases⟩ := step_next_cases hstep
  rcases hcases with ⟨p, q, hev, htick⟩ | ⟨m, hev, hfset⟩ | ⟨hev, hconn⟩ | ⟨hev, rfl⟩ | ⟨hev, rfl⟩ | ⟨hev, rfl⟩
  · obtain ⟨hr, rfl⟩ | ⟨hr, u, hcore, rfl⟩ := htick
    · simp [quietAfter, hr]
    · rw [pollStep_done, reportIfDone_done, hcore.done_eq rfl]
      by_cases hstop : s.phase = 4#3 ∧ s.cpf = .fall <;> simp [tickStart, hstop, hr, hev]
  · obtain rfl | rfl := hfset <;> rcases hev with hev | ⟨hev, -⟩ <;> simp [quietAfter, hev]
  · obtain rfl | rfl := hconn <;> simp [quietAfter, hev]
  · simp [resetBlock, quietAfter, hev]
  · simp [quietAfter, hev]
  · simp [quietAfter, hev]

end done

section flags

/-- Two operations write FLAGS: the turn clears TREQ, the next byte's request clears FBE (R176, R177). -/
theorem CoreTick.flags_cases {s u : State} (h : CoreTick s u) :
    u.flags = s.flags ∨
      (s.phase = 3#3 ∧ s.cpf = .fall ∧ s.dir = .tx ∧ u.flags = clearTreq s.flags) ∨
      (s.phase = 3#3 ∧ s.cpf = .fall ∧ s.dir = .rx ∧ u.flags = clearFbe s.flags) := by
  cases h
  case ackFallTurn hp hc hd => exact .inr (.inl ⟨hp, hc, hd, rfl⟩)
  case ackFallNext hp hc hd hf => exact .inr (.inr ⟨hp, hc, hd, rfl⟩)
  all_goals exact .inl rfl

/-- What a tick's operation keeps of each flag, and where it may clear it. -/
theorem CoreTick.keeps_flags {s u : State} (h : CoreTick s u) :
    (treq s.flags = true → treq u.flags = false → s.phase = 3#3 ∧ s.cpf = .fall ∧ s.dir = .tx) ∧
      (fbe s.flags = true → fbe u.flags = false → s.phase = 3#3 ∧ s.cpf = .fall ∧ s.dir = .rx) ∧
      rrq u.flags = rrq s.flags ∧ pub u.flags = pub s.flags := by
  obtain ⟨-, hfbe, hrrq, hpub⟩ := clearTreq_bits s.flags
  obtain ⟨htreq, -, hrrq', hpub'⟩ := clearFbe_bits s.flags
  rcases h.flags_cases with e | ⟨hp, hc, hd, e⟩ | ⟨hp, hc, hd, e⟩ <;> simp_all

/-- No flag that is set reads clear. -/
theorem set_not_clear {b : Bool} (h : b = true) (h' : b = false) : False :=
  absurd (h.symm.trans h') (by decide)

/-- The Poll Scheduler only sets flags and the Reporter only clears PUB, with a publish call, so a flag cleared in a
tick was cleared by the operation, or it is PUB at a `done`. -/
theorem CoreTick.clears_flag {s u t : State} (h : CoreTick s u) (h0 : s.done = none)
    (ht : t = pollStep (reportIfDone u)) :
    (treq s.flags = true → treq t.flags = false → s.phase = 3#3 ∧ s.cpf = .fall ∧ s.dir = .tx) ∧
      (fbe s.flags = true → fbe t.flags = false → s.phase = 3#3 ∧ s.cpf = .fall ∧ s.dir = .rx) ∧
      (rrq s.flags = true → rrq t.flags = true) ∧
      (pub s.flags = true → pub t.flags = false → s.phase = 4#3 ∧ s.cpf = .fall ∧ t.published ≠ none) := by
  obtain ⟨hcoreTreq, hcoreFbe, hcoreRrq, hcorePub⟩ := h.keeps_flags
  obtain ⟨hreportTreq, hreportFbe, hreportRrq, hreportPub⟩ := reportIfDone_keeps u
  obtain ⟨hpollTreq, hpollFbe, hpollRrq, hpollPub⟩ := pollStep_keeps (reportIfDone u)
  subst ht
  refine ⟨fun hset hclear => hcoreTreq hset ?_, fun hset hclear => hcoreFbe hset ?_, fun hset => ?_,
    fun hset hclear => ?_⟩
  · rw [← hreportTreq]
    exact Bool.eq_false_iff.mpr fun hu => set_not_clear (hpollTreq hu) hclear
  · rw [← hreportFbe]
    exact Bool.eq_false_iff.mpr fun hu => set_not_clear (hpollFbe hu) hclear
  · rw [hpollRrq, hreportRrq, hcoreRrq, hset]
  · obtain hkept | ⟨hdone, hpublished⟩ := hreportPub
    · rw [hkept, hcorePub] at hpollPub
      exact (set_not_clear (hpollPub hset) hclear).elim
    · rw [h.done_eq h0] at hdone
      obtain ⟨hp, hc⟩ := (ite_ne_right_iff.mp hdone).1
      exact ⟨hp, hc, by rwa [pollStep_published]⟩

/-- An FSET clears no flag. -/
theorem or_keeps (f m : FlagWord) (i : Nat) (h : f.getLsbD i = true) : (f ||| m).getLsbD i = true := by
  rw [BitVec.getLsbD_or, h, Bool.true_or]

/-- A move that only sets flags answers every clause of O30. -/
theorem flags_only_set {P Q R : Prop} {f g : FlagWord} (hset : ∀ i, f.getLsbD i = true → g.getLsbD i = true) :
    (f.getLsbD 0 = true → g.getLsbD 0 = false → P) ∧ (f.getLsbD 1 = true → g.getLsbD 1 = false → Q) ∧
      (f.getLsbD 2 = true → g.getLsbD 2 = true) ∧ (f.getLsbD 3 = true → g.getLsbD 3 = false → R) :=
  ⟨fun h h' => (set_not_clear (hset 0 h) h').elim, fun h h' => (set_not_clear (hset 1 h) h').elim, hset 2,
    fun h h' => (set_not_clear (hset 3 h) h').elim⟩

/-- Settles O30: a tick clears a flag in the operation that owns it or in the Reporter, the host only sets flags. -/
theorem flagClearing : Obligations.FlagClearing := by
  intro s t hstep hnotReset
  obtain ⟨l, n, hcases⟩ := step_next_cases hstep
  rcases hcases with ⟨p, q, hev, htick⟩ | ⟨m, -, hfset⟩ | ⟨-, hconn⟩ | ⟨hev, -⟩ | ⟨-, rfl⟩ | ⟨-, rfl⟩
  · obtain ⟨-, rfl⟩ | ⟨-, u, hcore, ht⟩ := htick
    · exact flags_only_set fun _ h => h
    · obtain ⟨htreq, hfbe, hrrq, hpub⟩ := hcore.clears_flag rfl ht
      have htickNext : ∃ p q, nextEvent s = .tick p q := ⟨p, q, hev⟩
      refine ⟨fun hset hclear => ?_, fun hset hclear => ?_, hrrq, fun hset hclear => ?_⟩
      · obtain ⟨hp, hc, hd⟩ := htreq hset hclear
        exact ⟨hp, hc, hd, htickNext⟩
      · obtain ⟨hp, hc, hd⟩ := hfbe hset hclear
        exact ⟨hp, hc, hd, htickNext⟩
      · obtain ⟨hp, hc, hd⟩ := hpub hset hclear
        exact ⟨hp, hc, hd, htickNext⟩
  · obtain rfl | rfl := hfset
    · exact flags_only_set fun _ h => h
    · exact flags_only_set (or_keeps s.flags m)
  · obtain rfl | rfl := hconn
    · exact flags_only_set fun _ h => h
    · exact flags_only_set (or_keeps s.flags 0b1000#4)
  · exact absurd hev hnotReset
  · exact flags_only_set fun _ h => h
  · exact flags_only_set fun _ h => h

end flags

end Sys2Proof.Machine

/-! PROOFS. What one tick does to the registers (10_state.md R24), the samples and the lines (40_line_driver.md R123 to
R128), and what it does not read (10_state.md R24, 42_sequencer.md R172). -/

namespace Sys2Proof.Machine

section registers
variable {s u : State}

theorem CoreTick.writes_rb0 (h : CoreTick s u) (hne : u.rb0 ≠ s.rb0) :
    s.phase = 3#3 ∧ s.cpf = .rise ∧ s.dir = .rx ∧ fbe s.flags = true ∧ u.rb0 = s.sr := by
  cases h
  case ackRiseRx0 hp hc hd hf => exact ⟨hp, hc, hd, hf, rfl⟩
  all_goals exact absurd rfl hne

theorem CoreTick.writes_rb1 (h : CoreTick s u) (hne : u.rb1 ≠ s.rb1) :
    s.phase = 3#3 ∧ s.cpf = .rise ∧ s.dir = .rx ∧ fbe s.flags = false ∧ u.rb1 = s.sr := by
  cases h
  case ackRiseRx1 hp hc hd hf => exact ⟨hp, hc, hd, hf, rfl⟩
  all_goals exact absurd rfl hne

theorem CoreTick.writes_dir (h : CoreTick s u) (hne : u.dir ≠ s.dir) :
    (s.phase = 1#3 ∧ u.phase = 2#3 ∧ u.dir = .tx) ∨ (s.phase = 3#3 ∧ s.cpf = .fall ∧ u.dir = .rx) := by
  cases h
  case startCond hp hq => exact .inl ⟨hp, rfl, rfl⟩
  case ackFallTurn hp hc hd => exact .inr ⟨hp, hc, rfl⟩
  all_goals exact absurd rfl hne

theorem CoreTick.writes_bc (h : CoreTick s u) (hne : u.bc ≠ s.bc) :
    u.bc = 8#4 ∧ u.phase = 2#3 ∧ (s.phase = 1#3 ∨ s.phase = 3#3) ∨
      s.phase = 2#3 ∧ s.cpf = .rise ∧ u.bc.toNat + 1 = s.bc.toNat := by
  have hdown (hb : s.bc ≠ 0#4) : (s.bc - 1#4).toNat + 1 = s.bc.toNat := by
    rw [toNat_countDown hb, Nat.sub_add_cancel (one_le_toNat hb)]
  cases h
  case startCond hp hq => exact .inl ⟨rfl, rfl, .inl hp⟩
  case ackFallTurn hp hc hd => exact .inl ⟨rfl, rfl, .inr hp⟩
  case ackFallNext hp hc hd hf => exact .inl ⟨rfl, rfl, .inr hp⟩
  case xferRiseTx hp hc hd hb => exact .inr ⟨hp, hc, hdown hb⟩
  case xferRiseRx hp hc hd hb => exact .inr ⟨hp, hc, hdown hb⟩
  all_goals exact absurd rfl hne

theorem CoreTick.writes_sr (h : CoreTick s u) (hne : u.sr ≠ s.sr) :
    (s.phase = 1#3 ∧ u.phase = 2#3) ∨ (s.phase = 2#3 ∧ s.cpf = .fall ∧ s.dir = .tx ∧ s.bc ≠ 0#4) ∨
      (s.phase = 2#3 ∧ s.cpf = .rise ∧ s.dir = .rx) ∨ (s.phase = 3#3 ∧ s.cpf = .rise ∧ s.dir = .tx) := by
  cases h
  case startCond hp hq => exact .inl ⟨hp, rfl⟩
  case xferFallTxbit hp hc hd hb => exact .inr (.inl ⟨hp, hc, hd, hb⟩)
  case xferRiseRx hp hc hd hb => exact .inr (.inr (.inl ⟨hp, hc, hd⟩))
  case ackRiseTx hp hc hd => exact .inr (.inr (.inr ⟨hp, hc, hd⟩))
  all_goals exact absurd rfl hne

end registers

/-- Settles O31: the writers among the operations; the Reporter and the Poll Scheduler write none of these. -/
theorem registerWriters : Obligations.RegisterWriters := by
  intro s t p q hnext hstep
  obtain ⟨rest, u, hcore, rfl⟩ := hnext.step_next hstep
  simp only [pollStep_rb0, pollStep_rb1, pollStep_dir, pollStep_bc, pollStep_sr, pollStep_phase, reportIfDone_rb0,
    reportIfDone_rb1, reportIfDone_dir, reportIfDone_bc, reportIfDone_sr, reportIfDone_phase]
  exact ⟨hcore.writes_rb0, hcore.writes_rb1, hcore.writes_dir, hcore.writes_bc, hcore.writes_sr⟩

section lines
variable {s u : State}

/-- No operation writes a sample. -/
theorem CoreTick.samples_eq (h : CoreTick s u) : u.sclIn = s.sclIn ∧ u.sdaIn = s.sdaIn := by
  cases h <;> exact ⟨rfl, rfl⟩

/-- Settles O33: the samples the operation finds are taken on the latches of the state before the tick. -/
theorem samplesBeforeCommands : Obligations.SamplesBeforeCommands := by
  intro s t p q hnext hstep
  obtain ⟨rest, u, hcore, rfl⟩ := hnext.step_next hstep
  obtain ⟨hscl, hsda⟩ := hcore.samples_eq
  rw [pollStep_sclIn, reportIfDone_sclIn, hscl, pollStep_sdaIn, reportIfDone_sdaIn, hsda]
  exact ⟨senseLevel_eq_ite s.sclOut p, senseLevel_eq_ite s.sdaOut q⟩

/-- The latch of a line after some commands: what the command for it says, as before where there is none. -/
def latchAfter (l : Line) (cmds : List LineCommand) (before : Latch) : Latch :=
  if .release l ∈ cmds then .released else if .driveLow l ∈ cmds then .drivenLow else before

/-- Every operation gives at most one command per line, SCL first, and its latches are what they say. -/
theorem CoreTick.commands (h : CoreTick s u) (h0 : s.cmds = []) :
    (u.cmds.map lineOf).Sublist [.scl, .sda] ∧ u.sclOut = latchAfter .scl u.cmds s.sclOut ∧
      u.sdaOut = latchAfter .sda u.cmds s.sdaOut := by
  cases h
  case xferFallTxbit hp hc hd hb =>
    cases s.sr.getLsbD 7 <;> simp [h0, lineOf, latchAfter]
  all_goals simp [h0, lineOf, latchAfter]

/-- Settles O34: the commands are the operation's, and nothing after it commands a line. -/
theorem commandOrder : Obligations.CommandOrder := by
  intro s t p q hnext hstep
  obtain ⟨rest, u, hcore, rfl⟩ := hnext.step_next hstep
  simp only [pollStep_cmds, reportIfDone_cmds, pollStep_sclOut, reportIfDone_sclOut, pollStep_sdaOut,
    reportIfDone_sdaOut]
  exact hcore.commands rfl

/-- In a state of the invariant an operation changes SDA after it drove SCL low, or makes the START or the STOP
condition with SCL released (R128): phase by phase, the retries and the rising halves leave SDA as it is. -/
theorem CoreTick.changes_sda (h : CoreTick s u) (hinv : BlockInv s) (h0 : s.cmds = []) (hne : u.sdaOut ≠ s.sdaOut) :
    (u.sclOut = .drivenLow ∧ u.cmds.head? = some (.driveLow .scl)) ∨
    (s.phase = 1#3 ∧ u.phase = 2#3 ∧ s.sclOut = .released ∧ u.sclOut = .released ∧ u.sclIn = .high ∧
      u.cmds = [.driveLow .sda]) ∨
    (s.phase = 4#3 ∧ u.phase = 0#3 ∧ s.sclOut = .released ∧ u.sclOut = .released ∧ u.cmds = [.release .sda]) := by
  have hfirst (c : LineCommand) (cs : List LineCommand) : (s.cmds ++ c :: cs).head? = some c := by
    rw [h0]
    rfl
  have honly (c : LineCommand) : s.cmds ++ [c] = [c] := by
    rw [h0]
    rfl
  cases h
  case startRetry hp hq => exact absurd (hinv.linesFree (.inr hp)).2.symm hne
  case startCond hp hq =>
    have hscl := (hinv.linesFree (.inr hp)).1
    exact .inr (.inl ⟨hp, rfl, hscl, hscl, hq.1, honly _⟩)
  case stopSda hp hc =>
    have hscl := hinv.clockHigh (.inr (.inr hp)) hc
    exact .inr (.inr ⟨hp, rfl, hscl, hscl, honly _⟩)
  case xferFallTxbit | xferFallTxend | xferFallRxack | xferFallRxnack | ackFallNext | ackFallLast =>
    exact .inl ⟨rfl, hfirst _ _⟩
  all_goals exact absurd rfl hne

/-- Settles O35: the tick's operation runs on a state that meets the invariant as the state before does. -/
theorem dataValidity : Obligations.DataValidity := by
  intro s t p q hinv hnext hstep hne
  obtain ⟨rest, u, hcore, rfl⟩ := hnext.step_next hstep
  have hstart : BlockInv (tickStart p q rest s) := hinv.congr rfl
  simp only [pollStep_sdaOut, reportIfDone_sdaOut] at hne
  simp only [pollStep_sclOut, reportIfDone_sclOut, pollStep_cmds, reportIfDone_cmds, pollStep_phase,
    reportIfDone_phase, pollStep_sclIn, reportIfDone_sclIn]
  exact hcore.changes_sda hstart rfl hne

end lines

section operation

/-- A state performs the operation its fields select. -/
theorem exec_of_selected {i : Instr} {s : State}
    (h : selectedBy i s.phase s.cpf s.dir (bitCountZero s) (fbe s.flags) (treq s.flags) (quiet s) = true) :
    exec (decodeOsw (osw s)) s = exec i s := by
  rw [decodeOsw_osw, operationOf_of_selectedBy h]

/-- The case of `CoreTick` that a state meets is the operation its select word decodes to, so it is the only one. -/
theorem CoreTick.exec_eq {s u : State} (h : CoreTick s u) : exec (decodeOsw (osw s)) s = .next u := by
  cases h with
  | idleWait hp ht => rw [exec_of_selected (i := .idleWait) (by simp [selectedBy, hp, ht])]; rfl
  | idleGo hp ht => rw [exec_of_selected (i := .idleGo) (by simp [selectedBy, hp, ht])]; rfl
  | startRetry hp hq =>
    have hquiet := Bool.eq_false_iff.mpr (mt (quiet_iff s).mp hq)
    rw [exec_of_selected (i := .startRetry) (by simp [selectedBy, hp, hquiet]), ← append_two]
    rfl
  | startCond hp hq =>
    rw [exec_of_selected (i := .startCond) (by simp [selectedBy, hp, (quiet_iff s).mpr hq])]
    rfl
  | xferRiseTx hp hc hd hb =>
    rw [exec_of_selected (i := .xferRiseTx) (by simp [selectedBy, bitCountZero, hp, hc, hd, hb])]
    exact countBit_of_ne (s := risingHalf s) hb
  | xferRiseRx hp hc hd hb =>
    rw [exec_of_selected (i := .xferRiseRx) (by simp [selectedBy, bitCountZero, hp, hc, hd, hb])]
    exact countBit_of_ne (s := (risingHalf s).setSr (shiftIn s.sr s.sdaIn)) hb
  | xferFallTxbit hp hc hd hb =>
    rw [exec_of_selected (i := .xferFallTxbit) (by simp [selectedBy, bitCountZero, hp, hc, hd, hb]), ← append_two]
    exact congrArg (fun w => Host.Outcome.next (w.setSr (shiftOut s.sr))) (putBit_eq (fallingHalf s) _)
  | xferFallTxend hp hc hd hb =>
    rw [exec_of_selected (i := .xferFallTxend) (by simp [selectedBy, bitCountZero, hp, hc, hd, hb]), ← append_two]
    rfl
  | xferFallRxhold hp hc hd hb =>
    rw [exec_of_selected (i := .xferFallRxhold) (by simp [selectedBy, bitCountZero, hp, hc, hd, hb])]
    rfl
  | xferFallRxack hp hc hd hb hf =>
    rw [exec_of_selected (i := .xferFallRxack) (by simp [selectedBy, bitCountZero, hp, hc, hd, hb, hf]), ← append_two]
    rfl
  | xferFallRxnack hp hc hd hb hf =>
    rw [exec_of_selected (i := .xferFallRxnack) (by simp [selectedBy, bitCountZero, hp, hc, hd, hb, hf]), ← append_two]
    rfl
  | ackRiseTx hp hc hd => rw [exec_of_selected (i := .ackRiseTx) (by simp [selectedBy, hp, hc, hd])]; rfl
  | ackRiseRx0 hp hc hd hf => rw [exec_of_selected (i := .ackRiseRx0) (by simp [selectedBy, hp, hc, hd, hf])]; rfl
  | ackRiseRx1 hp hc hd hf => rw [exec_of_selected (i := .ackRiseRx1) (by simp [selectedBy, hp, hc, hd, hf])]; rfl
  | ackFallTurn hp hc hd =>
    rw [exec_of_selected (i := .ackFallTurn) (by simp [selectedBy, hp, hc, hd])]
    rw [exec, execAckFallTurn, beginByte_eq, fallingHalf_eq]
    rfl
  | ackFallNext hp hc hd hf =>
    rw [exec_of_selected (i := .ackFallNext) (by simp [selectedBy, hp, hc, hd, hf]), ← append_two]
    rw [exec, execAckFallNext, beginByte_eq, fallingHalf_eq, release_sda]
    rfl
  | ackFallLast hp hc hd hf =>
    rw [exec_of_selected (i := .ackFallLast) (by simp [selectedBy, hp, hc, hd, hf]), ← append_two]
    rfl
  | stopScl hp hc => rw [exec_of_selected (i := .stopScl) (by simp [selectedBy, hp, hc])]; rfl
  | stopSda hp hc => rw [exec_of_selected (i := .stopSda) (by simp [selectedBy, hp, hc])]; rfl
  | faultRecover hp =>
    by_cases h5 : s.phase = 5#3
    · rw [exec_of_selected (i := .faultRecover5) (by simp [selectedBy, h5])]
      rfl
    · have h6 : 6 ≤ s.phase.toNat := by
        have hne : s.phase.toNat ≠ 5 := fun h => h5 (BitVec.eq_of_toNat_eq h)
        omega
      rw [exec_of_selected (i := .faultRecover67) (by simp [selectedBy, h6])]
      rfl

/-- A tick that meets a case of `CoreTick` answers that case, and steps 4 and 5 after it. -/
theorem CoreTick.step_eq {s u : State} {p q : Level} {rest : List EnvEvent} (h : CoreTick (tickStart p q rest s) u)
    (hc : configLegal s.cfg = true) (hr : s.rstHeld = false) (ha : s.armed = true)
    (hi : s.inbox = .tick p q :: rest) : step s = .next (pollStep (reportIfDone u)) := by
  rw [step_eq_afterOperation hc hr ha hi, h.exec_eq]
  rfl

end operation

section independence

/-- A state with other values in SR and in the samples. -/
def withInputs (v : Byte) (scl sda : Level) (s : State) : State :=
  { s with sr := v, sclIn := scl, sdaIn := sda }

/-- The Reporter and the Poll Scheduler read neither SR nor a sample. -/
theorem afterwards_withInputs (v : Byte) (scl sda : Level) (u : State) :
    pollStep (reportIfDone (withInputs v scl sda u)) = withInputs v scl sda (pollStep (reportIfDone u)) := by
  have hpoll (w : State) : pollStep (withInputs v scl sda w) = withInputs v scl sda (pollStep w) := by
    by_cases hdue : w.tslp + 1 = w.cfg.pollInterval
    · by_cases hforced : w.tslfr + 1 = w.cfg.forcedCount <;> simp [pollStep, poll, withInputs, hdue, hforced]
    · simp [pollStep, withInputs, hdue]
  have hreport : reportIfDone (withInputs v scl sda u) = withInputs v scl sda (reportIfDone u) := by
    rcases hd : u.done with _ | ⟨b0, b1⟩
    · rw [reportIfDone_none hd, reportIfDone_none (s := withInputs v scl sda u) hd]
    · rw [reportIfDone_some hd, reportIfDone_some (s := withInputs v scl sda u) hd]
      by_cases hreport : filterValue b0 b1 ≠ u.lrv ∨ pub u.flags = true
      · rw [filterReport_publishes hreport, filterReport_publishes (s := withInputs v scl sda u) hreport]
        rfl
      · obtain ⟨hsame, hpub⟩ := not_or.mp hreport
        have hsame := not_not.mp hsame
        have hpub := Bool.eq_false_iff.mpr hpub
        rw [filterReport_silent hsame hpub, filterReport_silent (s := withInputs v scl sda u) hsame hpub]
        rfl
  rw [hreport, hpoll]

/-- In the falling half of Ack no operation reads SR, whatever the byte before left there (R172). -/
theorem CoreTick.ackFall_withInputs {s u : State} (h : CoreTick s u) (hphase : s.phase = 3#3) (hcpf : s.cpf = .fall)
    (v : Byte) : CoreTick (withInputs v s.sclIn s.sdaIn s) (withInputs v u.sclIn u.sdaIn u) := by
  cases h
  case ackFallTurn hp hc hd => exact .ackFallTurn hp hc hd
  case ackFallNext hp hc hd hf => exact .ackFallNext hp hc hd hf
  case ackFallLast hp hc hd hf => exact .ackFallLast hp hc hd hf
  all_goals simp_all

/-- Settles O42: the operation is the same, and nothing after it reads SR. -/
theorem acknowledgeIgnored : Obligations.AcknowledgeIgnored := by
  rintro s t p q v ⟨hc, hr, ha, rest, hi⟩ hphase hcpf hstep
  rcases step_tick_cases hc hr ha hi with ⟨-, hfault⟩ | ⟨-, u, hcore, hnext⟩
  · exact nomatch hstep.symm.trans hfault
  · obtain rfl := Host.Outcome.next.inj (hstep.symm.trans hnext)
    have hother : CoreTick (tickStart p q rest { s with sr := v }) (withInputs v u.sclIn u.sdaIn u) :=
      hcore.ackFall_withInputs hphase hcpf v
    rw [hother.step_eq hc hr ha hi, afterwards_withInputs]
    simp [withInputs]

/-- Outside the four operations that read a line, other samples lead to the same state but for the samples. -/
theorem CoreTick.withSamples {s u : State} (h : CoreTick s u) (hstart : s.phase ≠ 1#3)
    (hreceive : ¬(s.phase = 2#3 ∧ s.cpf = .rise ∧ s.dir = .rx))
    (hrecord : ¬(s.phase = 3#3 ∧ s.cpf = .rise ∧ s.dir = .tx)) (scl sda : Level) :
    CoreTick (withInputs s.sr scl sda s) (withInputs u.sr scl sda u) := by
  cases h with
  | idleWait hp ht => exact .idleWait hp ht
  | idleGo hp ht => exact .idleGo hp ht
  | startRetry hp hq => exact absurd hp hstart
  | startCond hp hq => exact absurd hp hstart
  | xferRiseTx hp hc hd hb => exact .xferRiseTx hp hc hd hb
  | xferRiseRx hp hc hd hb => exact absurd ⟨hp, hc, hd⟩ hreceive
  | xferFallTxbit hp hc hd hb => exact .xferFallTxbit hp hc hd hb
  | xferFallTxend hp hc hd hb => exact .xferFallTxend hp hc hd hb
  | xferFallRxhold hp hc hd hb => exact .xferFallRxhold hp hc hd hb
  | xferFallRxack hp hc hd hb hf => exact .xferFallRxack hp hc hd hb hf
  | xferFallRxnack hp hc hd hb hf => exact .xferFallRxnack hp hc hd hb hf
  | ackRiseTx hp hc hd => exact absurd ⟨hp, hc, hd⟩ hrecord
  | ackRiseRx0 hp hc hd hf => exact .ackRiseRx0 hp hc hd hf
  | ackRiseRx1 hp hc hd hf => exact .ackRiseRx1 hp hc hd hf
  | ackFallTurn hp hc hd => exact .ackFallTurn hp hc hd
  | ackFallNext hp hc hd hf => exact .ackFallNext hp hc hd hf
  | ackFallLast hp hc hd hf => exact .ackFallLast hp hc hd hf
  | stopScl hp hc => exact .stopScl hp hc
  | stopSda hp hc => exact .stopSda hp hc
  | faultRecover hp => exact .faultRecover hp

/-- Settles O43: a tick that is not performed reads no line, and one that is reads none outside the four operations. -/
theorem linesReadOnlyThere : Obligations.LinesReadOnlyThere := by
  intro s t p q p' q' rest hstart hreceive hrecord hstep
  have hc := step_config hstep
  rcases Bool.eq_false_or_eq_true s.rstHeld with hr | hr
  · rw [step_tick_of_held hc hr rfl] at hstep
    cases hstep
    exact ⟨_, step_tick_of_held hc hr rfl, rfl⟩
  rcases Bool.eq_false_or_eq_true s.armed with ha | ha
  · rcases step_tick_cases hc hr ha rfl with ⟨-, hfault⟩ | ⟨-, u, hcore, hnext⟩
    · exact nomatch hstep.symm.trans hfault
    · obtain rfl := Host.Outcome.next.inj (hstep.symm.trans hnext)
      have hother : CoreTick (tickStart p' q' rest { s with inbox := .tick p' q' :: rest })
          (withInputs u.sr (senseLevel s.sclOut p') (senseLevel s.sdaOut q') u) :=
        hcore.withSamples hstart hreceive hrecord _ _
      refine ⟨_, hother.step_eq hc hr ha rfl, ?_⟩
      have hsr : (pollStep (reportIfDone u)).sr = u.sr := by rw [pollStep_sr, reportIfDone_sr]
      rw [afterwards_withInputs, ← hsr]
      rfl
  · rw [step_tick_of_not_armed hc ha rfl] at hstep
    cases hstep
    exact ⟨_, step_tick_of_not_armed hc ha rfl, rfl⟩

end independence

end Sys2Proof.Machine

/-! PROOFS. The Poll Scheduler over many ticks (43_poll_scheduler.md R200, R202), and the values, reports and payloads
of the Result Filter (44_result_filter.md R216, R217, 30_encoding.md R101). -/

namespace Sys2Proof.Machine

section scheduler

/-- Settles O44: the two requests of a poll are one mask. -/
theorem pollStepEffect : Obligations.PollStepEffect := by
  intro s
  refine ⟨pollStep_count, fun hdue hforced => ?_, fun hdue hforced => ?_⟩
  · rw [pollStep, if_pos hdue, poll, if_neg hforced]
    rfl
  · have hmask : setPub (setRequest s.flags) = s.flags ||| 0b1011#4 := BitVec.or_assoc s.flags 0b0011#4 0b1000#4
    rw [pollStep, if_pos hdue, poll, if_pos hforced, hmask]

/-- Counting on within a period. -/
theorem succ_div_mod_of_ne {n b : Nat} (hb : 0 < b) (h : n % b + 1 ≠ b) :
    (n + 1) / b = n / b ∧ (n + 1) % b = n % b + 1 := by
  have hlt := Nat.mod_lt n hb
  have hsplit := Nat.mod_add_div n b
  exact (Nat.div_mod_unique hb).mpr ⟨by omega, by omega⟩

/-- Counting past the end of a period. -/
theorem succ_div_mod_of_eq {n b : Nat} (hb : 0 < b) (h : n % b + 1 = b) :
    (n + 1) / b = n / b + 1 ∧ (n + 1) % b = 0 := by
  have hsplit := Nat.mod_add_div n b
  exact (Nat.div_mod_unique hb).mpr ⟨by rw [Nat.mul_add_one]; omega, hb⟩

/-- FLAGS after `k` polls: requests from the first on, PUB from the forced report count on. -/
def polledFlags (forced k : Nat) (f : FlagWord) : FlagWord :=
  f ||| (if 1 ≤ k then 0b0011#4 else 0#4) ||| (if forced ≤ k then 0b1000#4 else 0#4)

/-- A poll that is not the forced one adds the request only. -/
theorem polledFlags_succ_of_ne {forced k : Nat} (f : FlagWord) (h : k % forced + 1 ≠ forced) :
    polledFlags forced (k + 1) f = polledFlags forced k f ||| 0b0011#4 := by
  have hsame : forced ≤ k + 1 ↔ forced ≤ k := by
    refine ⟨fun hle => ?_, fun hle => Nat.le_succ_of_le hle⟩
    by_contra hlt
    rw [Nat.mod_eq_of_lt (by omega)] at h
    omega
  simp only [polledFlags, hsame, Nat.le_add_left, if_true]
  split_ifs <;> revert f <;> decide

/-- The forced poll sets PUB besides. -/
theorem polledFlags_succ_of_eq {forced k : Nat} (f : FlagWord) (h : k % forced + 1 = forced) :
    polledFlags forced (k + 1) f = polledFlags forced k f ||| 0b1011#4 := by
  have hreached : forced ≤ k + 1 := by
    have hle := Nat.mod_le k forced
    omega
  simp only [polledFlags, hreached, Nat.le_add_left, if_true]
  split_ifs <;> revert f <;> decide

theorem iterate_pollStep_cfg (n : Nat) (s : State) : (pollStep^[n] s).cfg = s.cfg := by
  induction n with
  | zero => rfl
  | succ n ih => rw [Function.iterate_succ_apply', pollStep_cfg, ih]

/-- The counters and FLAGS after n ticks, FLAGS by the number of polls (R202): one tick more counts on, or polls, or
polls and forces a report. -/
theorem iterate_pollStep {s : State} (hc : configLegal s.cfg = true) (htslp : s.tslp = 0) (htslfr : s.tslfr = 0)
    (n : Nat) :
    (pollStep^[n] s).tslp = n % s.cfg.pollInterval ∧
      (pollStep^[n] s).tslfr = n / s.cfg.pollInterval % s.cfg.forcedCount ∧
      (pollStep^[n] s).flags = polledFlags s.cfg.forcedCount (n / s.cfg.pollInterval) s.flags := by
  obtain ⟨hinterval, hcount⟩ := (configLegal_iff s.cfg).mp hc
  induction n with
  | zero =>
    have hforced : ¬s.cfg.forcedCount ≤ 0 := by omega
    simp [htslp, htslfr, polledFlags, hforced]
  | succ n ih =>
    obtain ⟨hp, hf, hflags⟩ := ih
    have hcfg := iterate_pollStep_cfg n s
    obtain ⟨hidle, hpoll, hforce⟩ := pollStepEffect (pollStep^[n] s)
    rw [hcfg, hp, hf] at hpoll hforce
    rw [hcfg, hp] at hidle
    rw [Function.iterate_succ_apply']
    by_cases hdue : n % s.cfg.pollInterval + 1 = s.cfg.pollInterval
    · obtain ⟨hdiv, hmod⟩ := succ_div_mod_of_eq (by omega) hdue
      by_cases hforced : n / s.cfg.pollInterval % s.cfg.forcedCount + 1 = s.cfg.forcedCount
      · obtain ⟨-, hwrap⟩ := succ_div_mod_of_eq (by omega) hforced
        rw [hforce hdue hforced, hdiv, hmod, hwrap, polledFlags_succ_of_eq _ hforced, hflags]
        exact ⟨rfl, rfl, rfl⟩
      · obtain ⟨-, hnext⟩ := succ_div_mod_of_ne (by omega) hforced
        rw [hpoll hdue hforced, hdiv, hmod, hnext, polledFlags_succ_of_ne _ hforced, hflags]
        exact ⟨rfl, rfl, rfl⟩
    · obtain ⟨hdiv, hmod⟩ := succ_div_mod_of_ne (by omega) hdue
      rw [hidle hdue, hdiv, hmod]
      exact ⟨rfl, hf, hflags⟩

/-- Settles O45: the number of polls reaches a bound when the ticks reach that many intervals. -/
theorem pollPeriod : Obligations.PollPeriod := by
  intro n s hc htslp htslfr
  obtain ⟨hp, hf, hflags⟩ := iterate_pollStep hc htslp htslfr n
  obtain ⟨hinterval, -⟩ := (configLegal_iff s.cfg).mp hc
  have hreached (k : Nat) : k ≤ n / s.cfg.pollInterval ↔ s.cfg.pollInterval * k ≤ n := by
    rw [Nat.le_div_iff_mul_le (by omega), Nat.mul_comm]
  refine ⟨hp, hf, ?_⟩
  rw [hflags]
  simp only [polledFlags, hreached, Nat.mul_one]

end scheduler

section reporter

/-- Settles O47: below the noise limit the value is 0, and above it a multiple of 10 added to 100 byte0. -/
theorem sentinelCollision : Obligations.SentinelCollision := by
  intro b0 b1 h0 h1
  by_cases hnoise : b0.toNat = 0 ∧ b1.toNat < 50
  · rw [filterValue_of_noise hnoise]
    exact iff_of_false (by decide) (by omega)
  · obtain ⟨hmultiple, hround, hround'⟩ := round10_nearest b1.toNat
    rw [filterValue_toNat_of_inRange h0 h1 hnoise]
    omega

/-- Whatever a report decides, CCV and LRV then hold the value of its pair (R215, R216). -/
theorem reportIfDone_values {s : State} {b0 b1 : Byte} (h : s.done = some (b0, b1)) :
    (reportIfDone s).ccv = filterValue b0 b1 ∧ (reportIfDone s).lrv = filterValue b0 b1 := by
  rw [reportIfDone_some h]
  by_cases hreport : filterValue b0 b1 ≠ s.lrv ∨ pub s.flags = true
  · rw [filterReport_publishes hreport]
    exact ⟨rfl, rfl⟩
  · obtain ⟨hsame, hpub⟩ := not_or.mp hreport
    rw [filterReport_silent (not_not.mp hsame) (Bool.eq_false_iff.mpr hpub)]
    exact ⟨rfl, (not_not.mp hsame).symm⟩

/-- Settles O49: the second report finds its value in LRV, so PUB alone decides. -/
theorem repeatedReportSuppressed : Obligations.RepeatedReportSuppressed := by
  intro s u b0 b1 hs hu hlrv hnone
  rw [(reportIfDone_values hs).2] at hlrv
  rw [reportIfDone_some hu]
  rcases hpub : u.flags.getLsbD 3 with _ | _
  · rw [filterReport_silent hlrv.symm hpub]
    exact iff_of_false (fun h => h hnone) Bool.false_ne_true
  · rw [filterReport_publishes (.inr hpub)]
    exact iff_of_true (Option.some_ne_none _) rfl

end reporter

section payload

/-- The number a list of decimal digits denotes, the most significant first. -/
def numeral (ds : List Nat) : Nat :=
  ds.foldl (fun a d => 10 * a + d) 0

/-- The digits printed are decimal digits, without a leading zero, that denote the number, once there is fuel for
them: the last digit is the remainder, the others print the quotient. -/
theorem digitsWithFuel_eq_map {fuel n : Nat} (hfuel : n < fuel) :
    ∃ ds : List Nat, (∀ d ∈ ds, d < 10) ∧ ds ≠ [] ∧ (ds.head? = some 0 → ds = [0]) ∧ numeral ds = n ∧
      digitsWithFuel fuel n = ds.map digitChar := by
  induction fuel generalizing n with
  | zero => exact absurd hfuel (Nat.not_lt_zero n)
  | succ fuel ih =>
    rw [digitsWithFuel]
    split
    next hdigit =>
      refine ⟨[n], by simpa using hdigit, by simp, fun h => ?_, by simp [numeral], rfl⟩
      rw [Option.some.inj h]
    next htwo =>
      obtain ⟨ds, hdigits, hne, hlead, hvalue, hprint⟩ := ih (n := n / 10) (by omega)
      refine ⟨ds ++ [n % 10], ?_, by simp, fun h => ?_, ?_, by rw [hprint, List.map_append]; rfl⟩
      · intro d hd
        rcases List.mem_append.mp hd with hd | hd
        · exact hdigits d hd
        · rw [List.mem_singleton.mp hd]
          exact Nat.mod_lt n (by decide)
      · rw [List.head?_append_of_ne_nil ds hne] at h
        rw [hlead h] at hvalue
        have hzero : n / 10 = 0 := hvalue.symm
        omega
      · have hquotient : ds.foldl (fun a d => 10 * a + d) 0 = n / 10 := hvalue
        rw [numeral, List.foldl_append, hquotient]
        exact Nat.div_add_mod n 10

/-- Settles O50: the digits of `decimal`, between the two fixed parts. -/
theorem payloadShape : Obligations.PayloadShape := by
  intro v
  obtain ⟨ds, hdigits, hne, hlead, hvalue, hprint⟩ := digitsWithFuel_eq_map (Nat.lt_succ_self v.toNat)
  refine ⟨ds, hdigits, hne, hlead, hvalue, ?_⟩
  have hopen : "\"columns\":[[\"Coffee\",\"".toList =
      ['"', 'c', 'o', 'l', 'u', 'm', 'n', 's', '"', ':', '[', '[', '"', 'C', 'o', 'f', 'f', 'e', 'e', '"', ',',
        '"'] := by
    decide
  have hclose : "\"]]".toList = ['"', ']', ']'] := by
    decide
  rw [payload, decimal, hprint, hopen, hclose, List.append_assoc _ ['"', ']', ']']]
  rfl

end payload

end Sys2Proof.Machine

/-! PROOFS. Runs of ticks: what has been reached after some of them, and one tick more (42_sequencer.md R184). -/

namespace Sys2Proof.Machine

/-- No poll comes within `n` ticks from `s`. -/
def Unpolled (s : State) (n : Nat) : Prop :=
  s.tslp + n < s.cfg.pollInterval

/-- `t` is the state after `i` of the `n` ticks that wait in `s`: the ticks left wait, the block is ready to take them,
and TSLP has counted those taken unless a poll came. -/
structure Reached (s : State) (p q : Nat → Level) (n : Nat) (rest : List EnvEvent) (i : Nat) (t : State) : Prop where
  runs : run i s = .next t
  config : configLegal t.cfg = true
  free : t.rstHeld = false
  armed : t.armed = true
  inbox : t.inbox = (ticks p q n).drop i ++ rest
  cfg : t.cfg = s.cfg
  tslp : Unpolled s n → t.tslp = s.tslp + i

/-- `t` is what the Reporter and the Poll Scheduler make of `u`, as far as CORE can see it: the registers of CORE and
the outputs are kept, a request stays, and no flag of CORE changes where no poll comes (`quietly`). -/
structure Settled (quietly : Prop) (u t : State) : Prop where
  phase : t.phase = u.phase
  cpf : t.cpf = u.cpf
  dir : t.dir = u.dir
  bc : t.bc = u.bc
  sr : t.sr = u.sr
  rb0 : t.rb0 = u.rb0
  rb1 : t.rb1 = u.rb1
  sclOut : t.sclOut = u.sclOut
  sdaOut : t.sdaOut = u.sdaOut
  cmds : t.cmds = u.cmds
  done : t.done = u.done
  value : ∀ b0 b1, u.done = some (b0, b1) → t.ccv = filterValue b0 b1
  requested : treq u.flags = true → treq t.flags = true
  treq : quietly → treq t.flags = treq u.flags
  fbe : quietly → fbe t.flags = fbe u.flags

theorem settled_afterwards {quietly : Prop} (u : State) (h : quietly → u.tslp + 1 ≠ u.cfg.pollInterval) :
    Settled quietly u (pollStep (reportIfDone u)) := by
  obtain ⟨hreportTreq, hreportFbe, -, -⟩ := reportIfDone_keeps u
  obtain ⟨hpollTreq, -, -, -⟩ := pollStep_keeps (reportIfDone u)
  have hquiet (hq : quietly) : (pollStep (reportIfDone u)).flags = (reportIfDone u).flags := by
    rw [pollStep_count (by simpa using h hq)]
  constructor
  case value =>
    intro b0 b1 hdone
    rw [pollStep_ccv, (reportIfDone_values hdone).1]
  case requested =>
    intro hset
    exact hpollTreq (hreportTreq.trans hset)
  case treq =>
    intro hq
    rw [hquiet hq, hreportTreq]
  case fbe =>
    intro hq
    rw [hquiet hq, hreportFbe]
  all_goals simp

section reached
variable {s : State} {p q : Nat → Level} {n : Nat} {rest : List EnvEvent} {i : Nat} {t : State}

/-- Nothing of the run has been done yet. -/
theorem reached_zero (hc : configLegal s.cfg = true) (hr : s.rstHeld = false) (ha : s.armed = true)
    (hi : s.inbox = ticks p q n ++ rest) : Reached s p q n rest 0 s :=
  ⟨run_zero s, hc, hr, ha, hi, rfl, fun _ => rfl⟩

/-- After all ticks what stood behind them waits. -/
theorem Reached.inbox_end (h : Reached s p q n rest n t) : t.inbox = rest := by
  rw [h.inbox, List.drop_eq_nil_of_le (by simp [ticks]), List.nil_append]

/-- The ticks left begin with the next one. -/
theorem ticks_drop (p q : Nat → Level) (hi : i < n) :
    (ticks p q n).drop i = .tick (p (i + 1)) (q (i + 1)) :: (ticks p q n).drop (i + 1) := by
  rw [List.drop_eq_getElem_cons (by simpa [ticks] using hi)]
  simp [ticks]

/-- The state in which the operation of tick `i + 1` runs. -/
def tickAt (p q : Nat → Level) (n : Nat) (rest : List EnvEvent) (i : Nat) (t : State) : State :=
  tickStart (p (i + 1)) (q (i + 1)) ((ticks p q n).drop (i + 1) ++ rest) t

/-- One tick more: the state reached is what follows the operation `t` selects. -/
theorem Reached.next {u : State} (h : Reached s p q n rest i t) (hi : i < n)
    (hcore : CoreTick (tickAt p q n rest i t) u) :
    ∃ t', Reached s p q n rest (i + 1) t' ∧ Settled (Unpolled s n) u t' := by
  have hinbox : t.inbox = .tick (p (i + 1)) (q (i + 1)) :: ((ticks p q n).drop (i + 1) ++ rest) := by
    rw [h.inbox, ticks_drop p q hi, List.cons_append]
  have hstep := hcore.step_eq h.config h.free h.armed hinbox
  obtain ⟨hcfg, hin, -, harmed, hfree, -, -, htslp, -, -, -, -⟩ := exec_outside hcore.exec_eq
  have hcfg' : u.cfg = t.cfg := hcfg
  have hquiet (hq : Unpolled s n) : u.tslp + 1 ≠ u.cfg.pollInterval := by
    have hlt : s.tslp + n < s.cfg.pollInterval := hq
    have hcount : u.tslp = s.tslp + i := htslp.trans (h.tslp hq)
    rw [hcfg', h.cfg, hcount]
    omega
  refine ⟨_, ⟨?_, ?_, ?_, ?_, ?_, ?_, ?_⟩, settled_afterwards u hquiet⟩
  · rw [run_add i 1 h.runs, run_succ 0 hstep, run_zero]
  · rw [pollStep_cfg, reportIfDone_cfg, hcfg']
    exact h.config
  · rw [pollStep_rstHeld, reportIfDone_rstHeld, hfree]
    exact h.free
  · rw [pollStep_armed, reportIfDone_armed, harmed]
    exact h.armed
  · rw [pollStep_inbox, reportIfDone_inbox, hin]
    rfl
  · rw [pollStep_cfg, reportIfDone_cfg, hcfg', h.cfg]
  · intro hq
    rw [pollStep_count (by simpa using hquiet hq), reportIfDone_tslp, htslp]
    exact congrArg (· + 1) (h.tslp hq)

end reached

end Sys2Proof.Machine

/-! PROOFS. A byte on the wire: one bit per two ticks, sent from bit 7 down or received into bit 7 first
(41_bit_engine.md R151, R152). -/

namespace Sys2Proof.Machine

/-- PHASE, CPF, DIR and BC: what selects the operation of the next tick, the flags and samples apart. -/
structure Control (ph : Phase) (cp : ClockPhase) (dr : Direction) (count : Nat) (t : State) : Prop where
  phase : t.phase = ph
  cpf : t.cpf = cp
  dir : t.dir = dr
  bc : t.bc.toNat = count

/-- What the ticks of a byte leave: RB, and TREQ and FBE where no poll comes. -/
structure Kept (quietly : Prop) (t t' : State) : Prop where
  rb0 : t'.rb0 = t.rb0
  rb1 : t'.rb1 = t.rb1
  treq : quietly → treq t'.flags = treq t.flags
  fbe : quietly → fbe t'.flags = fbe t.flags

theorem Kept.refl (quietly : Prop) (t : State) : Kept quietly t t :=
  ⟨rfl, rfl, fun _ => rfl, fun _ => rfl⟩

theorem Kept.trans {quietly : Prop} {t u v : State} (h : Kept quietly t u) (h' : Kept quietly u v) :
    Kept quietly t v :=
  ⟨h'.rb0.trans h.rb0, h'.rb1.trans h.rb1, fun hq => (h'.treq hq).trans (h.treq hq),
    fun hq => (h'.fbe hq).trans (h.fbe hq)⟩

theorem bc_eq_zero {b : BitVec 4} (h : b.toNat = 0) : b = 0#4 :=
  BitVec.eq_of_toNat_eq h

theorem bc_ne_zero {b : BitVec 4} {k : Nat} (h : b.toNat = k + 1) : b ≠ 0#4 := by
  rintro rfl
  cases h

theorem bc_countDown {b : BitVec 4} {k : Nat} (h : b.toNat = k + 1) : (b - 1#4).toNat = k := by
  rw [toNat_countDown (bc_ne_zero h), h, Nat.add_sub_cancel]

section sending
variable {s : State} {p q : Nat → Level} {n : Nat} {rest : List EnvEvent} {i : Nat} {t : State}

/-- The level a 1 and a 0 are sent with (R127). -/
def bitLatch (b : Bool) : Latch :=
  if b then .released else .drivenLow

/-- Two ticks send one bit: bit 7 of SR goes on SDA while SCL is low, and is held while SCL is released (R142, R146). -/
theorem Reached.send_bit {k : Nat} (h : Reached s p q n rest i t) (hi : i + 2 ≤ n)
    (hc : Control 2#3 .fall .tx (k + 1) t) :
    ∃ t' t'', Reached s p q n rest (i + 1) t' ∧ Reached s p q n rest (i + 2) t'' ∧
      (t'.bc.toNat = k + 1 ∧ t'.sclOut = .drivenLow ∧ t'.sdaOut = bitLatch (t.sr.getLsbD 7)) ∧
      (t''.sclOut = .released ∧ t''.sdaOut = t'.sdaOut) ∧
      Control 2#3 .fall .tx k t'' ∧ t''.sr = shiftOut t.sr ∧ Kept (Unpolled s n) t t'' := by
  obtain ⟨t', h', low⟩ := h.next (by omega) (.xferFallTxbit hc.phase hc.cpf hc.dir (bc_ne_zero hc.bc))
  have hbc : t'.bc.toNat = k + 1 := low.bc ▸ hc.bc
  obtain ⟨t'', h'', high⟩ := h'.next (by omega)
    (.xferRiseTx (low.phase.trans hc.phase) low.cpf (low.dir.trans hc.dir) (bc_ne_zero hbc))
  have hlow : Kept (Unpolled s n) t t' := ⟨low.rb0, low.rb1, low.treq, low.fbe⟩
  have hhigh : Kept (Unpolled s n) t' t'' := ⟨high.rb0, high.rb1, high.treq, high.fbe⟩
  refine ⟨t', t'', h', h'', ⟨hbc, low.sclOut, low.sdaOut⟩, ⟨high.sclOut, high.sdaOut⟩, ⟨?_, high.cpf, ?_, ?_⟩,
    high.sr.trans low.sr, hlow.trans hhigh⟩
  · exact high.phase.trans (low.phase.trans hc.phase)
  · exact high.dir.trans (low.dir.trans hc.dir)
  · rw [high.bc]
    exact bc_countDown hbc

/-- After k bits have been sent they have left SR. -/
theorem Reached.send_bits (h : Reached s p q n rest i t) (hi : i + 16 ≤ n) (hc : Control 2#3 .fall .tx 8 t)
    {k : Nat} (hk : k ≤ 8) :
    ∃ t', Reached s p q n rest (i + 2 * k) t' ∧ Control 2#3 .fall .tx (8 - k) t' ∧ t'.sr = t.sr <<< k ∧
      Kept (Unpolled s n) t t' := by
  induction k with
  | zero => exact ⟨t, h, hc, by simp, .refl _ t⟩
  | succ k ih =>
    obtain ⟨t', h', hc', hsr, hkept⟩ := ih (by omega)
    rw [show 8 - k = 8 - (k + 1) + 1 by omega] at hc'
    obtain ⟨-, t'', -, h'', -, -, hc'', hsr', hkept'⟩ := h'.send_bit (by omega) hc'
    refine ⟨t'', h'', hc'', ?_, hkept.trans hkept'⟩
    rw [hsr', hsr, shiftOut, ← BitVec.shiftLeft_add]

/-- Seventeen ticks send a byte: the last gives SDA to the slave for its acknowledge (R147). -/
theorem Reached.send_byte (h : Reached s p q n rest i t) (hi : i + 17 ≤ n) (hc : Control 2#3 .fall .tx 8 t) :
    ∃ t', Reached s p q n rest (i + 17) t' ∧ Control 3#3 .rise .tx 0 t' ∧ t'.sr = 0#8 ∧
      (t'.sclOut = .drivenLow ∧ t'.sdaOut = .released) ∧ Kept (Unpolled s n) t t' := by
  obtain ⟨t', h', hc', hsr, hkept⟩ := h.send_bits (by omega) hc (Nat.le_refl 8)
  obtain ⟨t'', h'', last⟩ := h'.next (by omega) (.xferFallTxend hc'.phase hc'.cpf hc'.dir (bc_eq_zero hc'.bc))
  have hlast : Kept (Unpolled s n) t' t'' := ⟨last.rb0, last.rb1, last.treq, last.fbe⟩
  refine ⟨t'', h'', ⟨last.phase, last.cpf, last.dir.trans hc'.dir, last.bc ▸ hc'.bc⟩, ?_, ⟨last.sclOut, last.sdaOut⟩,
    hkept.trans hlast⟩
  exact last.sr.trans (hsr.trans (BitVec.shiftLeft_eq_zero (Nat.le_refl 8)))

end sending

/-- Settles O36: bit k comes after k bits have left SR, and the byte ends as `send_byte` says. -/
theorem transmittedByte : Obligations.TransmittedByte := by
  intro s b p q rest hcfg hr ha hp hcpf hdir hbc hsr hi
  have h0 : Reached s p q 17 rest 0 s := reached_zero hcfg hr ha hi
  have hcontrol : Control 2#3 .fall .tx 8 s := ⟨hp, hcpf, hdir, by rw [hbc]; rfl⟩
  refine ⟨fun k hk => ?_, ?_⟩
  · obtain ⟨t, ht, hc, hshift, -⟩ := h0.send_bits (by omega) hcontrol (Nat.le_of_lt hk)
    rw [show 8 - k = 7 - k + 1 by omega] at hc
    obtain ⟨t', t'', h', h'', ⟨hbc', hscl', hsda'⟩, ⟨hscl'', hsda''⟩, hc'', -, -⟩ := ht.send_bit (by omega) hc
    have hbit : t.sr.getLsbD 7 = b.getLsbD (7 - k) := by
      have hin : k ≤ 7 := Nat.le_of_lt_succ hk
      rw [hshift, hsr, BitVec.getLsbD_shiftLeft, decide_eq_false (Nat.not_lt.mpr hin)]
      rfl
    rw [hbit] at hsda'
    refine ⟨t', t'', ?_, ?_, hscl', hscl'', hbc'.trans (by omega), hc''.bc, hsda', hsda''⟩
    · simpa using h'.runs
    · simpa using h''.runs
  · obtain ⟨t, ht, hc, hzero, ⟨hscl, hsda⟩, -⟩ := h0.send_byte (Nat.le_refl 17) hcontrol
    exact ⟨t, ht.runs, hc.phase, hc.cpf, bc_eq_zero hc.bc, hzero, hscl, hsda, ht.inbox_end⟩

section receiving
variable {s : State} {p q : Nat → Level} {n : Nat} {rest : List EnvEvent} {i : Nat} {t : State}

/-- The samples of the first k rising ticks after tick i. -/
def samples (q : Nat → Level) (i k : Nat) : List Level :=
  (List.range k).map fun j => q (i + 2 * j + 1)

theorem samples_succ (q : Nat → Level) (i k : Nat) : samples q i (k + 1) = samples q i k ++ [q (i + 2 * k + 1)] := by
  simp [samples, List.range_succ]

/-- One bit taken: at a rising tick the level the slave leaves on the released SDA is shifted into SR (R143). -/
theorem Reached.take_bit {k : Nat} (h : Reached s p q n rest i t) (hi : i < n) (hc : Control 2#3 .rise .rx (k + 1) t)
    (hsda : t.sdaOut = .released) :
    ∃ t', Reached s p q n rest (i + 1) t' ∧ Control 2#3 .fall .rx k t' ∧ t'.sr = shiftIn t.sr (q (i + 1)) ∧
      t'.sdaOut = .released ∧ Kept (Unpolled s n) t t' := by
  obtain ⟨t', h', high⟩ := h.next hi (.xferRiseRx hc.phase hc.cpf hc.dir (bc_ne_zero hc.bc))
  have hlevel : (tickAt p q n rest i t).sdaIn = q (i + 1) := by
    rw [tickAt, tickStart, hsda, senseLevel_released]
  refine ⟨t', h', ⟨high.phase.trans hc.phase, high.cpf, high.dir.trans hc.dir, ?_⟩, ?_, high.sdaOut.trans hsda,
    ⟨high.rb0, high.rb1, high.treq, high.fbe⟩⟩
  · rw [high.bc]
    exact bc_countDown hc.bc
  · rw [high.sr, hlevel]
    rfl

/-- After k bits, while more are to come, SR holds them behind what is left of what it held. -/
theorem Reached.take_bits (h : Reached s p q n rest i t) (hi : i + 16 ≤ n) (hc : Control 2#3 .rise .rx 8 t)
    (hsda : t.sdaOut = .released) {k : Nat} (hk : k ≤ 7) :
    ∃ t', Reached s p q n rest (i + 2 * k) t' ∧ Control 2#3 .rise .rx (8 - k) t' ∧
      t'.sr = (samples q i k).foldl shiftIn t.sr ∧ t'.sdaOut = .released ∧ Kept (Unpolled s n) t t' := by
  induction k with
  | zero => exact ⟨t, h, hc, rfl, hsda, .refl _ t⟩
  | succ k ih =>
    obtain ⟨t', h', hc', hsr, hsda', hkept⟩ := ih (by omega)
    rw [show 8 - k = 7 - k + 1 by omega] at hc'
    obtain ⟨t'', h'', hc'', hsr', hsda'', hkept'⟩ := h'.take_bit (by omega) hc' hsda'
    rw [show 7 - k = 7 - (k + 1) + 1 by omega] at hc''
    obtain ⟨t3, h3, hold⟩ := h''.next (by omega) (.xferFallRxhold hc''.phase hc''.cpf hc''.dir (bc_ne_zero hc''.bc))
    have hhold : Kept (Unpolled s n) t'' t3 := ⟨hold.rb0, hold.rb1, hold.treq, hold.fbe⟩
    refine ⟨t3, h3, ⟨hold.phase.trans hc''.phase, hold.cpf, hold.dir.trans hc''.dir, ?_⟩, ?_, hold.sdaOut.trans hsda'',
      (hkept.trans hkept').trans hhold⟩
    · rw [hold.bc]
      exact hc''.bc.trans (by omega)
    · rw [samples_succ, List.foldl_append, ← hsr]
      exact hold.sr.trans hsr'

/-- Sixteen ticks receive a byte: the last answers it with ACK if one more is expected, else with NACK (R149, R150). -/
theorem Reached.take_byte (h : Reached s p q n rest i t) (hi : i + 16 ≤ n) (hc : Control 2#3 .rise .rx 8 t)
    (hsda : t.sdaOut = .released) :
    ∃ t' t'', Reached s p q n rest (i + 15) t' ∧ Reached s p q n rest (i + 16) t'' ∧ Control 3#3 .rise .rx 0 t'' ∧
      t''.sr = (samples q i 8).foldl shiftIn t.sr ∧ t''.sclOut = .drivenLow ∧
      t''.sdaOut = (if fbe t'.flags then .drivenLow else .released) ∧ Kept (Unpolled s n) t t'' := by
  obtain ⟨t7, h7, hc7, hsr7, hsda7, hkept7⟩ := h.take_bits hi hc hsda (Nat.le_refl 7)
  obtain ⟨t', h', hc', hsr', -, hkept'⟩ := h7.take_bit (by omega) hc7 hsda7
  have hsr8 : t'.sr = (samples q i 8).foldl shiftIn t.sr := by
    rw [samples_succ, List.foldl_append, ← hsr7]
    exact hsr'
  have hbc : t'.bc = 0#4 := bc_eq_zero hc'.bc
  rcases hf : fbe t'.flags with _ | _
  on_goal 1 => obtain ⟨t'', h'', last⟩ := h'.next (by omega) (.xferFallRxnack hc'.phase hc'.cpf hc'.dir hbc hf)
  on_goal 2 => obtain ⟨t'', h'', last⟩ := h'.next (by omega) (.xferFallRxack hc'.phase hc'.cpf hc'.dir hbc hf)
  all_goals
    have hlast : Kept (Unpolled s n) t' t'' := ⟨last.rb0, last.rb1, last.treq, last.fbe⟩
    exact ⟨t', t'', h', h'', ⟨last.phase, last.cpf, last.dir.trans hc'.dir, last.bc ▸ hc'.bc⟩, last.sr.trans hsr8,
      last.sclOut, by rw [hf]; exact last.sdaOut, (hkept7.trans hkept').trans hlast⟩

/-- What SR held before moves up by one place with each bit taken. -/
theorem foldl_shiftIn (v : List Level) (sr : Byte) :
    v.foldl shiftIn sr = (sr <<< v.length) ||| v.foldl shiftIn 0#8 := by
  induction v using List.reverseRecOn with
  | nil => simp
  | append_singleton v x ih =>
    rw [List.foldl_append, List.foldl_append, ih]
    simp only [List.foldl_cons, List.foldl_nil, shiftIn, List.length_append, List.length_singleton]
    rw [BitVec.shiftLeft_or_distrib, BitVec.shiftLeft_add, BitVec.or_assoc]

/-- The byte of some levels is what shifting them into an empty register leaves. -/
theorem byteOfLevels_eq_foldl (v : List Level) : byteOfLevels v = v.foldl shiftIn 0#8 := by
  simp only [byteOfLevels, ← shiftIn_eq_ofNat]

/-- After eight bits SR is the byte they make, whatever it held (R152). -/
theorem foldl_shiftIn_eight (v : List Level) (sr : Byte) (hv : v.length = 8) :
    v.foldl shiftIn sr = byteOfLevels v := by
  rw [foldl_shiftIn, hv, BitVec.shiftLeft_eq_zero (Nat.le_refl 8), BitVec.zero_or, byteOfLevels_eq_foldl]

end receiving

/-- Settles O37: the eight samples push out what SR held. -/
theorem receivedByte : Obligations.ReceivedByte := by
  intro s p q rest hcfg hr ha hp hcpf hdir hbc hsda hi
  have h0 : Reached s p q 16 rest 0 s := reached_zero hcfg hr ha hi
  have hcontrol : Control 2#3 .rise .rx 8 s := ⟨hp, hcpf, hdir, by rw [hbc]; rfl⟩
  obtain ⟨t, u, ht, hu, hc, hsr, hscl, hack, -⟩ := h0.take_byte (Nat.le_refl 16) hcontrol hsda
  exact ⟨t, u, ht.runs, hu.runs, hsr.trans (foldl_shiftIn_eight _ _ rfl), hc.phase, hc.cpf, bc_eq_zero hc.bc, hscl,
    hack, hu.inbox_end⟩

end Sys2Proof.Machine

/-! PROOFS. Whole runs of the sequencer: a transaction of two bytes and of one (42_sequencer.md R174, R185), the bus
stall (60_exceptions.md R252) and the recovery from an unrecognised phase (42_sequencer.md R183). -/

namespace Sys2Proof.Machine

section transaction
variable {s : State} {p q : Nat → Level} {n : Nat} {rest : List EnvEvent} {i : Nat} {t : State}

/-- The opening of a transaction, 21 ticks: the request leaves Idle, the quiescent bus takes the START condition, the
address byte is sent, its acknowledge recorded, and the turn clears TREQ and opens a byte to receive. -/
theorem Reached.open_transaction (h : Reached s p q n rest 0 t) (hn : 21 ≤ n) (hquiet : Unpolled s n)
    (hp : t.phase = 0#3) (hreq : treq t.flags = true) (hscl : t.sclOut = .released) (hsda : t.sdaOut = .released)
    (hp2 : p 2 = .high) (hq2 : q 2 = .high) :
    ∃ t', Reached s p q n rest 21 t' ∧ Control 2#3 .rise .rx 8 t' ∧ t'.sdaOut = .released ∧
      t'.rb0 = t.rb0 ∧ t'.rb1 = t.rb1 ∧ treq t'.flags = false ∧ fbe t'.flags = fbe t.flags := by
  obtain ⟨t1, h1, go⟩ := h.next (by omega) (.idleGo hp hreq)
  have hsampled : (tickAt p q n rest 1 t1).sclIn = .high ∧ (tickAt p q n rest 1 t1).sdaIn = .high :=
    ⟨(senseLevel_eq_high_iff _ _).mpr ⟨go.sclOut.trans hscl, hp2⟩,
      (senseLevel_eq_high_iff _ _).mpr ⟨go.sdaOut.trans hsda, hq2⟩⟩
  obtain ⟨t2, h2, cond⟩ := h1.next (by omega) (.startCond go.phase hsampled)
  obtain ⟨t19, h19, hc19, -, ⟨-, hsda19⟩, hkept⟩ :=
    h2.send_byte (by omega) ⟨cond.phase, cond.cpf, cond.dir, congrArg BitVec.toNat cond.bc⟩
  obtain ⟨t20, h20, record⟩ := h19.next (by omega) (.ackRiseTx hc19.phase hc19.cpf hc19.dir)
  obtain ⟨t21, h21, turn⟩ :=
    h20.next (by omega) (.ackFallTurn (record.phase.trans hc19.phase) record.cpf (record.dir.trans hc19.dir))
  obtain ⟨hcleared, hfbe, -, -⟩ := clearTreq_bits t20.flags
  refine ⟨t21, h21, ⟨turn.phase, turn.cpf, turn.dir, congrArg BitVec.toNat turn.bc⟩, ?_, ?_, ?_, ?_, ?_⟩
  · exact turn.sdaOut.trans (record.sdaOut.trans hsda19)
  · exact turn.rb0.trans (record.rb0.trans (hkept.rb0.trans (cond.rb0.trans go.rb0)))
  · exact turn.rb1.trans (record.rb1.trans (hkept.rb1.trans (cond.rb1.trans go.rb1)))
  · exact (turn.treq hquiet).trans hcleared
  · calc fbe t21.flags = fbe (clearTreq t20.flags) := turn.fbe hquiet
      _ = fbe t20.flags := hfbe
      _ = fbe t19.flags := record.fbe hquiet
      _ = fbe t2.flags := hkept.fbe hquiet
      _ = fbe t1.flags := cond.fbe hquiet
      _ = fbe t.flags := go.fbe hquiet

/-- The first byte of two has come: two ticks store it in RB[0] and open the second, FBE cleared (R169, R177). -/
theorem Reached.store_first (h : Reached s p q n rest i t) (hi : i + 2 ≤ n) (hquiet : Unpolled s n)
    (hc : Control 3#3 .rise .rx 0 t) (hfbe : fbe t.flags = true) :
    ∃ t', Reached s p q n rest (i + 2) t' ∧ Control 2#3 .rise .rx 8 t' ∧ t'.sdaOut = .released ∧ t'.rb0 = t.sr ∧
      treq t'.flags = treq t.flags ∧ fbe t'.flags = false := by
  obtain ⟨t1, h1, store⟩ := h.next (by omega) (.ackRiseRx0 hc.phase hc.cpf hc.dir hfbe)
  obtain ⟨t2, h2, next⟩ := h1.next (by omega)
    (.ackFallNext (store.phase.trans hc.phase) store.cpf (store.dir.trans hc.dir) ((store.fbe hquiet).trans hfbe))
  obtain ⟨htreq, hcleared, -, -⟩ := clearFbe_bits t1.flags
  exact ⟨t2, h2, ⟨next.phase, next.cpf, next.dir.trans (store.dir.trans hc.dir), congrArg BitVec.toNat next.bc⟩,
    next.sdaOut, next.rb0.trans store.rb0, (next.treq hquiet).trans (htreq.trans (store.treq hquiet)),
    (next.fbe hquiet).trans hcleared⟩

/-- The last byte has come: four ticks store it in RB[1], make the STOP condition and hand the pair over, whose value
the Reporter takes (R170, R178, R180, R182). -/
theorem Reached.close_transaction (h : Reached s p q n rest i t) (hi : i + 4 ≤ n) (hquiet : Unpolled s n)
    (hc : Control 3#3 .rise .rx 0 t) (hfbe : fbe t.flags = false) :
    ∃ t', Reached s p q n rest (i + 4) t' ∧ t'.rb0 = t.rb0 ∧ t'.rb1 = t.sr ∧ t'.done = some (t'.rb0, t'.rb1) ∧
      t'.ccv = filterValue t'.rb0 t'.rb1 ∧ t'.phase = 0#3 ∧ t'.cpf = .rise ∧ t'.bc = 0#4 ∧
      (t'.sclOut = .released ∧ t'.sdaOut = .released) ∧ treq t'.flags = treq t.flags ∧ fbe t'.flags = false := by
  obtain ⟨t1, h1, store⟩ := h.next (by omega) (.ackRiseRx1 hc.phase hc.cpf hc.dir hfbe)
  obtain ⟨t2, h2, last⟩ := h1.next (by omega)
    (.ackFallLast (store.phase.trans hc.phase) store.cpf (store.dir.trans hc.dir) ((store.fbe hquiet).trans hfbe))
  obtain ⟨t3, h3, high⟩ := h2.next (by omega) (.stopScl last.phase last.cpf)
  obtain ⟨t4, h4, stop⟩ := h3.next (by omega) (.stopSda (high.phase.trans last.phase) high.cpf)
  have hrb0 : t3.rb0 = t4.rb0 := stop.rb0.symm
  have hrb1 : t3.rb1 = t4.rb1 := stop.rb1.symm
  refine ⟨t4, h4, ?_, ?_, ?_, ?_, stop.phase, stop.cpf, ?_, ⟨stop.sclOut.trans high.sclOut, stop.sdaOut⟩, ?_, ?_⟩
  · exact stop.rb0.trans (high.rb0.trans (last.rb0.trans store.rb0))
  · exact stop.rb1.trans (high.rb1.trans (last.rb1.trans store.rb1))
  · rw [← hrb0, ← hrb1]
    exact stop.done
  · rw [← hrb0, ← hrb1]
    exact stop.value _ _ rfl
  · exact stop.bc.trans (high.bc.trans (last.bc.trans (store.bc.trans (bc_eq_zero hc.bc))))
  · calc treq t4.flags = treq t3.flags := stop.treq hquiet
      _ = treq t2.flags := high.treq hquiet
      _ = treq t1.flags := last.treq hquiet
      _ = treq t.flags := store.treq hquiet
  · calc fbe t4.flags = fbe t3.flags := stop.fbe hquiet
      _ = fbe t2.flags := high.fbe hquiet
      _ = fbe t1.flags := last.fbe hquiet
      _ = fbe t.flags := store.fbe hquiet
      _ = false := hfbe

end transaction

/-- Settles O38: 21 ticks open the transaction, 16 receive the first byte, 2 store it, 16 receive the second, and 4
close. -/
theorem wholeTransaction : Obligations.WholeTransaction := by
  intro s p q rest hcfg hr ha hp hreq hfbe hscl hsda hquiet hp2 hq2 hi
  have h0 : Reached s p q 59 rest 0 s := reached_zero hcfg hr ha hi
  obtain ⟨t21, h21, hc21, hsda21, -, -, htreq21, hfbe21⟩ :=
    h0.open_transaction (by decide) hquiet hp hreq hscl hsda hp2 hq2
  obtain ⟨-, t37, -, h37, hc37, hsr37, -, -, hkept37⟩ := h21.take_byte (by decide) hc21 hsda21
  have hfbe37 : fbe t37.flags = true := (hkept37.fbe hquiet).trans (hfbe21.trans hfbe)
  obtain ⟨t39, h39, hc39, hsda39, hrb39, htreq39, hfbe39⟩ := h37.store_first (by decide) hquiet hc37 hfbe37
  obtain ⟨-, t55, -, h55, hc55, hsr55, -, -, hkept55⟩ := h39.take_byte (by decide) hc39 hsda39
  have hfbe55 : fbe t55.flags = false := (hkept55.fbe hquiet).trans hfbe39
  obtain ⟨t, h, hrb0, hrb1, hdone, hccv, hphase, hcpf, hbc, ⟨hsclEnd, hsdaEnd⟩, htreq, hfbeEnd⟩ :=
    h55.close_transaction (by decide) hquiet hc55 hfbe55
  refine ⟨t, h.runs, ?_, ?_, hdone, hccv, hphase, hcpf, hbc, hsclEnd, hsdaEnd, ?_, hfbeEnd, h.tslp hquiet,
    h.inbox_end⟩
  · rw [hrb0, hkept55.rb0, hrb39, hsr37]
    exact foldl_shiftIn_eight _ _ rfl
  · rw [hrb1, hsr55]
    exact foldl_shiftIn_eight _ _ rfl
  · calc treq t.flags = treq t55.flags := htreq
      _ = treq t39.flags := hkept55.treq hquiet
      _ = treq t37.flags := htreq39
      _ = treq t21.flags := hkept37.treq hquiet
      _ = false := htreq21

/-- Settles O39: 21 ticks open the transaction, 16 receive the one byte, and 4 close. -/
theorem oneByteTransaction : Obligations.OneByteTransaction := by
  intro s p q rest hcfg hr ha hp hreq hfbe hscl hsda hquiet hp2 hq2 hi
  have h0 : Reached s p q 41 rest 0 s := reached_zero hcfg hr ha hi
  obtain ⟨t21, h21, hc21, hsda21, hrb21, -, htreq21, hfbe21⟩ :=
    h0.open_transaction (by decide) hquiet hp hreq hscl hsda hp2 hq2
  obtain ⟨-, t37, -, h37, hc37, hsr37, -, -, hkept37⟩ := h21.take_byte (by decide) hc21 hsda21
  have hfbe37 : fbe t37.flags = false := (hkept37.fbe hquiet).trans (hfbe21.trans hfbe)
  obtain ⟨t, h, hrb0, hrb1, hdone, -, hphase, -, -, ⟨hsclEnd, hsdaEnd⟩, htreq, -⟩ :=
    h37.close_transaction (by decide) hquiet hc37 hfbe37
  refine ⟨t, h.runs, ?_, ?_, hdone, hphase, hsclEnd, hsdaEnd, ?_, h.inbox_end⟩
  · rw [hrb0, hkept37.rb0, hrb21]
  · rw [hrb1, hsr37]
    exact foldl_shiftIn_eight _ _ rfl
  · exact htreq.trans ((hkept37.treq hquiet).trans htreq21)

section stall
variable {s : State} {p q : Nat → Level} {n : Nat} {rest : List EnvEvent} {i : Nat} {t : State}

/-- The request still waits in Start, and the registers of CORE are as they were. -/
structure Stalled (s t : State) : Prop where
  phase : t.phase = 1#3
  treq : treq t.flags = true
  sr : t.sr = s.sr
  bc : t.bc = s.bc
  rb0 : t.rb0 = s.rb0
  rb1 : t.rb1 = s.rb1
  cpf : t.cpf = s.cpf
  dir : t.dir = s.dir

/-- A tick at which the peer holds a line low is a retry: both lines are released, SCL first, and nothing else of CORE
is written (R164). -/
theorem Reached.stall (h : Reached s p q n rest i t) (hi : i < n) (hstall : Stalled s t)
    (hlow : p (i + 1) = .low ∨ q (i + 1) = .low) :
    ∃ t', Reached s p q n rest (i + 1) t' ∧ Stalled s t' ∧ t'.done = none ∧
      t'.cmds = [.release .scl, .release .sda] ∧ t'.sclOut = .released ∧ t'.sdaOut = .released := by
  have hbusy : ¬((tickAt p q n rest i t).sclIn = .high ∧ (tickAt p q n rest i t).sdaIn = .high) := by
    rintro ⟨hscl, hsda⟩
    have hp := ((senseLevel_eq_high_iff _ _).mp hscl).2
    have hq := ((senseLevel_eq_high_iff _ _).mp hsda).2
    rcases hlow with hlow | hlow
    · exact nomatch hp.symm.trans hlow
    · exact nomatch hq.symm.trans hlow
  obtain ⟨t', h', retry⟩ := h.next hi (.startRetry hstall.phase hbusy)
  exact ⟨t', h',
    ⟨retry.phase.trans hstall.phase, retry.requested hstall.treq, retry.sr.trans hstall.sr, retry.bc.trans hstall.bc,
      retry.rb0.trans hstall.rb0, retry.rb1.trans hstall.rb1, retry.cpf.trans hstall.cpf, retry.dir.trans hstall.dir⟩,
    retry.done, retry.cmds, retry.sclOut, retry.sdaOut⟩

end stall

/-- Settles O40: by induction the stall reaches the last tick, and one tick more is one more retry. -/
theorem startStallsForever : Obligations.StartStallsForever := by
  intro n s p q rest hcfg hr ha hp hreq hlow hi
  have hstalled (k : Nat) (hk : k ≤ n) : ∃ t, Reached s p q (n + 1) rest k t ∧ Stalled s t := by
    induction k with
    | zero => exact ⟨s, reached_zero hcfg hr ha hi, hp, hreq, rfl, rfl, rfl, rfl, rfl, rfl⟩
    | succ k ih =>
      obtain ⟨t, h, hstall⟩ := ih (by omega)
      obtain ⟨t', h', hstall', -⟩ := h.stall (by omega) hstall (hlow _)
      exact ⟨t', h', hstall'⟩
  obtain ⟨t, h, hstall⟩ := hstalled n (Nat.le_refl n)
  obtain ⟨t', h', hend, hdone, hcmds, hscl, hsda⟩ := h.stall (Nat.lt_succ_self n) hstall (hlow _)
  exact ⟨t', h'.runs, hend.phase, hend.treq, hdone, hcmds, hscl, hsda, hend.sr, hend.bc, hend.rb0, hend.rb1, hend.cpf,
    hend.dir, h'.inbox_end⟩

/-- Settles O41: the recovery writes PHASE and CPF only, and the two halves of Stop follow. -/
theorem recoveryInThreeTicks : Obligations.RecoveryInThreeTicks := by
  intro s p q rest hcfg hr ha hp hi
  have h0 : Reached s p q 3 rest 0 s := reached_zero hcfg hr ha hi
  obtain ⟨t, ht, recover⟩ := h0.next (by decide) (.faultRecover hp)
  obtain ⟨u, hu, high⟩ := ht.next (by decide) (.stopScl recover.phase recover.cpf)
  obtain ⟨v, hv, stop⟩ := hu.next (by decide) (.stopSda (high.phase.trans recover.phase) high.cpf)
  have hrb0 : u.rb0 = s.rb0 := high.rb0.trans recover.rb0
  have hrb1 : u.rb1 = s.rb1 := high.rb1.trans recover.rb1
  refine ⟨t, u, v, ht.runs, hu.runs, hv.runs, recover.done, high.done, ?_, recover.cmds, recover.sclOut, recover.sdaOut,
    stop.phase, stop.cpf, stop.sclOut.trans high.sclOut, stop.sdaOut, ?_, ?_, ?_, ?_, ?_⟩
  · rw [← hrb0, ← hrb1]
    exact stop.done
  · exact stop.sr.trans (high.sr.trans recover.sr)
  · exact stop.bc.trans (high.bc.trans recover.bc)
  · exact stop.dir.trans (high.dir.trans recover.dir)
  · exact stop.rb0.trans hrb0
  · exact stop.rb1.trans hrb1

end Sys2Proof.Machine
